-- ==== Sys2Proof/Word.lean ====
section
/-! DEFINITION. The words of the machine: bytes of the aisle line and 16-bit words of the carriage port. -/

namespace Sys2Proof

/-- One character's data bits on the aisle line (R2). -/
abbrev Byte := BitVec 8

/-- One word on CD0-CD15 (R125), and the width of CHECK and of the snapshot check word (R4). -/
abbrev Word := BitVec 16

end Sys2Proof
end

