-- ==== Sys2Proof/Syntax.lean ====
section
/-! DEFINITION. The commands of the block: one constructor for each row of spec/opcode_table.json, in its order. -/

namespace Sys2Proof

/-- The levels of a framing error with its data bits at space, and back at mark after the stop bit (R2). -/
def plainFramingError : List Bool := List.replicate 10 false ++ [true]

/-- The levels of a break: space for the 24 bit times from the edge on (R2). -/
def plainBreak : List Bool := List.replicate 24 false

/-- The 69 commands. The table gives no fields; the operands here carry what the event brings from outside
(log 4). A command that hands out a received frame has no operand: it takes the head of the receive queue (R11). -/
inductive Instr where
  | powerOn
  | resetPin
  | leaveReset
  /-- `vbak`: whether VBAK holds at the moment VDD is lost (R173). -/
  | vddLoss (vbak : Bool)
  /-- `block`: the 32 bytes of the configuration block (R42, R43). -/
  | configReadComplete (block : List Byte)
  | tick
  | secondsAdvance
  /-- `levels`: the levels sampled at the bit centres since the edge of a start bit, mark as true; none while the start bit has
  not reached its centre (R2, R17). -/
  | lineBusy (levels : List Bool := [])
  | gapEnd
  /-- `len`: the LEN character (R7). -/
  | malformedLen (len : Byte)
  /-- `levels`: the levels sampled at the bit centres since the edge of the start bit (R2); so for the row below. -/
  | framingError (levels : List Bool := plainFramingError)
  | breakHeard (levels : List Bool := plainBreak)
  /-- `chars`: the characters of the frame that the receiver has still to take, through the second CHECK character (R3, R8). -/
  | frameReceived (chars : List Byte)
  | unknownKind
  | slotWaitEnd
  | collision
  | breakSentEnd
  | heardBack
  | chainInActive
  | chainInRise
  | chainInQuiet
  | orderingTimeout
  | chainOutBurst
  | learningPeriodEnd
  | mountCall
  | demountCall
  | offer
  /-- `ciu`, `num`: the tag of the entry whose window expires (R84). -/
  | offerWindowExpiry (ciu num : Byte)
  | takeWaitExpiry (ciu num : Byte)
  | take
  | takeHoldEnd (ciu num : Byte)
  | done
  | requestAgeing
  | requestWaitingDue
  | span
  | staleMark
  | restatementTimer
  | waitingTimer
  | nudge
  | stationSilentDue
  | prompt
  | promptClear
  | reply
  | promptExpiry
  | promptEscalation
  | promptResend
  /-- `status`: the status word of the completion (R125, R126); so for the rows below. -/
  | travelCompletion (status : Word)
  | pickCompletion (status : Word)
  | placeCompletion (status : Word)
  /-- `unreadable`, `w1`, `w2`, `w3`: the result words of READ-LABEL (R125). -/
  | readLabelCompletion (status unreadable w1 w2 w3 : Word)
  /-- `present`: the result word of RING-CHECK (R125). -/
  | ringCheckCompletion (status present : Word)
  /-- `position`, `loaded`: the result words of REPORT (R125). -/
  | reportCompletion (status position loaded : Word)
  | stopCompletion (status : Word)
  | commandTimeout
  | doneRepostTimer
  | doorOpen
  | doorRaiseTimer
  | tallyAsk
  | tally
  | periodClose
  | closeComplete
  | tallyTaken
  | statusAsk
  | status
  | restart
  | doorClose
  /-- `chars`: the characters the receiver has taken in HUNT and SYNC, the completing one last (R6). -/
  | syncPairFound (chars : List Byte)
  | chainInFall
  | vbakLoss
  deriving DecidableEq, Repr

end Sys2Proof
end

