-- ==== Sys2Proof/Decode.lean ====
section
/-! DEFINITION. Reading a command from table bits: no row of spec/opcode_table.json gives a bit, so no word spells a command
(log 38). -/

namespace Sys2Proof

/-- The command a word spells by the table's bits. The table gives none of its rows a bit, so there is none. -/
def decodeTableWord (_nbits _w : Nat) : Option Instr := none

end Sys2Proof
end

