-- ==== Sys2Proof/Machine/Types.lean ====
section
/-! DEFINITION. The fixed sets of names and the records that the blocks' state and the frames are made of. -/

namespace Sys2Proof.Machine

/-! ## Station Control -/

/-- The states of section 3 (R40, R58, R59). -/
inductive Mode where
  | reset | config | ordering | learning | ready | offline
  deriving DecidableEq, Repr, Inhabited

/-- Causes of a start (R40). -/
inductive ResetCause where
  | powerOn | resetPin | restart
  deriving DecidableEq, Repr, Inhabited

/-- Offline reasons (R28). -/
inductive OfflineReason where
  | none | configBad | geometryBad | orderFailed | orderConflict
  deriving DecidableEq, Repr, Inhabited

/-- The running time to the next burst on CHAIN-OUT (R51): the first one's in pulse-times of REFCLK, which no command counts
(R47, log 39), a later one's in ticks left. -/
inductive BurstWait where
  | pulseTimes (count : Nat)
  | ticks (left : Nat)
  deriving DecidableEq, Repr, Inhabited

/-- The configuration values after the substitutions of R45, by the letters of 00_scope.md 5.5. -/
structure ConfigValues where
  address   : Nat
  n         : Nat
  divisor   : Nat
  railLo    : Nat
  railHi    : Nat
  H         : Nat
  G         : Nat
  V         : Nat
  R         : Nat
  K         : Nat
  N         : Nat
  B         : Nat
  windowPos : Nat
  windowEast : Bool
  windowTier : Nat
  clean     : Nat
  deriving DecidableEq, Repr, Inhabited

/-! ## The line -/

/-- The blocks that post frames (R12). -/
inductive Block where
  | request | span | sequencer | prompt | accounting | control
  deriving DecidableEq, Repr, Inhabited

/-- A frame from KIND through the last body byte; LEN is the body's length (R3). -/
structure Frame where
  kind : Byte
  src  : Byte
  dst  : Byte
  body : List Byte
  deriving DecidableEq, Repr, Inhabited

/-- The receiver's states (R5). HEADER and BODY carry the characters of the frame in progress, from LEN on (R7). -/
inductive Receiver where
  | hunt
  | sync
  | header (got : List Byte)
  | body (got : List Byte)
  deriving DecidableEq, Repr, Inhabited

/-- The line access states (R18); SLOT-WAIT carries the drawn number of slots. -/
inductive Access where
  | idle | gapWait | slotWait (slots : Nat) | sending | breaking
  deriving DecidableEq, Repr, Inhabited

/-- A receive queue entry: the frame and its own mark (R10). -/
structure RxEntry where
  frame : Frame
  own   : Bool
  deriving DecidableEq, Repr, Inhabited

/-- A transmit queue entry (R12). Its class is a function of its KIND (R13). `collided` marks the frame
whose collision awaits the end of the station's own break (R21). -/
structure TxEntry where
  frame      : Frame
  poster     : Block
  collisions : Nat
  window     : Nat
  collided   : Bool
  deriving DecidableEq, Repr, Inhabited

/-- The nine line counters in the order of STATUS (R24). -/
structure LineCounters where
  crcErrors    : Nat
  malformed    : Nat
  overruns     : Nat
  abortsHeard  : Nat
  collisions   : Nat
  drops        : Nat
  unknownKinds : Nat
  lateReplies  : Nat
  callsDropped : Nat
  deriving DecidableEq, Repr, Inhabited

/-! ## Calls and claims -/

/-- The identity of a call: CIU address and tag number (R27). -/
structure Tag where
  ciu : Nat
  num : Nat
  deriving DecidableEq, Repr, Inhabited

/-- A place: position in millimetres, side, tier and window flag (R27). -/
structure Place where
  pos    : Nat
  east   : Bool
  tier   : Nat
  window : Bool
  deriving DecidableEq, Repr, Inhabited

inductive CallKind where
  | mount | clean | demount
  deriving DecidableEq, Repr, Inhabited

/-- The fields of a call (R33); `source` is present for MOUNT and CLEAN, `ret` for DEMOUNT (R77). -/
structure Call where
  tag     : Tag
  kind    : CallKind
  urgent  : Bool
  volume  : List Byte
  account : Nat
  ring    : Bool
  source  : Option Place
  driveNo : Nat
  drive   : Place
  ret     : Option Place
  deriving DecidableEq, Repr, Inhabited

/-- Results of a DONE (R34). -/
inductive Result where
  | mounted | returned | declined | notFound | abandoned
  deriving DecidableEq, Repr, Inhabited

/-- The fields of a DONE (R34). -/
structure Done where
  tag      : Tag
  kind     : CallKind
  result   : Result
  driveNo  : Nat
  volume   : List Byte
  account  : Nat
  ring     : Bool
  assisted : Bool
  deriving DecidableEq, Repr, Inhabited

/-- Entry states (R78). -/
inductive EntryState where
  | heard | bidding | taking | owned | peer
  deriving DecidableEq, Repr, Inhabited

/-- Bidding phase and its running timer (R77). -/
inductive Phase where
  | none | window | takeWait
  deriving DecidableEq, Repr, Inhabited

/-- An offer is a cost and an order index (R74). -/
structure Offer where
  cost  : Nat
  index : Nat
  deriving DecidableEq, Repr, Inhabited

/-- The station's own offer on an entry (R77, R81). -/
structure OwnOffer where
  cost      : Nat
  base      : Nat
  heardBack : Bool
  deriving DecidableEq, Repr, Inhabited

/-- A claim: the cost and index of a TAKE and, for a reassert (cost 0), its loaded flag (R77, R88). -/
structure Claim where
  cost   : Nat
  index  : Nat
  loaded : Bool
  deriving DecidableEq, Repr, Inhabited

/-- The owning peer of a PEER entry (R77). -/
structure Owner where
  addr  : Nat
  claim : Claim
  deriving DecidableEq, Repr, Inhabited

/-- A request table entry (R77). `prompt` is the number of its REQUEST-WAITING prompt while the Prompt
Unit holds it (R155, R171). -/
structure Entry where
  call       : Call
  arrival    : Nat
  state      : EntryState
  phase      : Phase
  ownOffer   : Option OwnOffer
  best       : Option Offer
  owner      : Option Owner
  hold       : Bool
  rival      : Bool
  estimate   : Option Nat
  reassert   : Option Bool
  noticed    : Bool
  raisedHere : Bool
  prompt     : Option Nat
  deriving DecidableEq, Repr, Inhabited

/-! ## Spans -/

inductive SpanKind where
  | parked | moving | fixed
  deriving DecidableEq, Repr, Inhabited

/-- The span the station states (R102). -/
structure OwnSpan where
  lo       : Nat
  hi       : Nat
  kind     : SpanKind
  reassert : Bool
  deriving DecidableEq, Repr, Inhabited

/-- A peer's entry of the span table (R102). -/
structure PeerSpan where
  index     : Nat
  addr      : Nat
  lo        : Nat
  hi        : Nat
  kind      : SpanKind
  lastHeard : Nat
  stale     : Bool
  deriving DecidableEq, Repr, Inhabited

/-- Reservation states (section 6.3). -/
inductive Reservation where
  | parked | waiting | asking | granted
  deriving DecidableEq, Repr, Inhabited

/-- Purposes of a command (R129) and of a move (section 6.3). `dropped` is the model's own: a stage's move that was GRANTED when its
request was dropped, which goes on for no request (R115, R143, log 62). -/
inductive Purpose where
  | stage | nudge | home | putBack | check | dropped
  deriving DecidableEq, Repr, Inhabited

structure Move where
  target  : Nat
  purpose : Purpose
  deriving DecidableEq, Repr, Inhabited

/-- A held nudge (R120). -/
structure HeldNudge where
  east      : Bool
  boundary  : Nat
  requester : Nat
  deriving DecidableEq, Repr, Inhabited

/-- A nudge record: ticks left of the 5 s since the NUDGE was posted (R117). -/
structure NudgeRecord where
  addr : Nat
  left : Nat
  deriving DecidableEq, Repr, Inhabited

/-- A silent-peer record (R123). -/
structure SilentPeer where
  addr   : Nat
  due    : Option Nat
  heard  : Bool
  raised : Bool
  prompt : Option Nat
  deriving DecidableEq, Repr, Inhabited

/-! ## The carriage -/

/-- Carriage commands other than STOP (R125). -/
inductive Command where
  | travel (target : Nat)
  | pick (place : Place)
  | place (place : Place)
  | readLabel
  | ringCheck
  | report
  deriving DecidableEq, Repr, Inhabited

/-- Completion codes (R125). -/
inductive Code where
  | ok | empty | occupied | stopped | fault
  deriving DecidableEq, Repr, Inhabited

/-- The causes of a STOP (R128): the door, a lost grant, a dropped request. -/
structure StopCauses where
  door    : Bool
  lost    : Bool
  dropped : Bool
  deriving DecidableEq, Repr, Inhabited

/-- The command in flight (R129); `causes` is present once a STOP was issued while it was in flight, and
`orphan` marks a stage's command whose request was dropped while it was in flight (R143). -/
structure InFlight where
  cmd     : Command
  purpose : Purpose
  timer   : Nat
  causes  : Option StopCauses
  orphan  : Bool
  deriving DecidableEq, Repr, Inhabited

/-- An outstanding STOP: its timer and the command it was sent to stop (R128). -/
structure StopRecord where
  timer   : Nat
  target  : Command
  purpose : Purpose
  deriving DecidableEq, Repr, Inhabited

inductive Hand where
  | empty | request | orphan
  deriving DecidableEq, Repr, Inhabited

/-- Stages of a request (R133, R136, R138). In WAIT-OPERATOR the record's stage is the stage to resume. -/
inductive Stage where
  | loadWait | toSource | picking | label | ring | detourTravel | detourPlace | detourPick
  | toDrive | toCell | placing | completing
  deriving DecidableEq, Repr, Inhabited

/-- The destination of a request's reel (R133, R138, R140). -/
inductive Dest where
  | drive | ret | source | window
  deriving DecidableEq, Repr, Inhabited

/-- Prompt kinds (R28). -/
inductive PromptKind where
  | loadWindow | cellEmpty | serialMismatch | ringNeeded | slotOccupied | carriageFault | doorOpen
  | handLoaded | railBlocked | stationSilent | requestWaiting | cleanDue | accountsFull | storeLost
  deriving DecidableEq, Repr, Inhabited

/-- The request record (R129). -/
structure ReqRecord where
  tag      : Tag
  stage    : Stage
  waiting  : Option PromptKind
  dest     : Dest
  outcome  : Result
  pickDone : Bool
  assisted : Bool
  prompt   : Option Nat
  deriving DecidableEq, Repr, Inhabited

inductive FaultAnswer where
  | retry | release
  deriving DecidableEq, Repr, Inhabited

/-- An open fault record (R129, R144 to R147). `reporting` says that the release REPORT is in flight,
`raiseOwed` that a refused raise is to be made again, `noTag` that it was raised under R147. -/
structure FaultRecord where
  cmd       : Command
  purpose   : Purpose
  prompt    : Option Nat
  answer    : Option FaultAnswer
  reporting : Bool
  raiseOwed : Bool
  noTag     : Bool
  deriving DecidableEq, Repr, Inhabited

/-- The number of the latest DOOR-OPEN prompt heard from an address (R149). -/
structure DoorNumber where
  addr : Nat
  num  : Nat
  deriving DecidableEq, Repr, Inhabited

/-- The door record (R129, R149). -/
structure DoorRecord where
  numbers   : List DoorNumber
  heard     : Bool
  raised    : Bool
  timer     : Option Nat
  raiseOwed : Bool
  prompt    : Option Nat
  deriving DecidableEq, Repr, Inhabited

/-- A DONE list record (R142). -/
structure DoneRecord where
  done  : Done
  timer : Option Nat
  deriving DecidableEq, Repr, Inhabited

/-! ## Prompts -/

inductive Level where
  | notice | action | urgent
  deriving DecidableEq, Repr, Inhabited

/-- Reasons of a PROMPT-CLEAR (R165). -/
inductive ClearReason where
  | answered | expired | preempted | withdrawn
  deriving DecidableEq, Repr, Inhabited

/-- Operator answers (R28): CONTINUE, RETRY, SKIP, ACCEPT, RETURN, WINDOW, RELEASE. -/
inductive Answer where
  | cont | retry | skip | accept | returnReel | window | release
  deriving DecidableEq, Repr, Inhabited

/-- The optional fields of a prompt (R36, R153). -/
structure PromptFields where
  tag    : Option Tag
  volume : Option (List Byte)
  pos    : Option Nat
  drive  : Option Nat
  peer   : Option Nat
  deriving DecidableEq, Repr, Inhabited

/-- Whether a frame of the Prompt Unit was dropped, and whether the advance that posts it again has come
(R164, R165). -/
inductive DropMark where
  | none | dropped | due
  deriving DecidableEq, Repr, Inhabited

/-- A prompt list entry (R153). -/
structure PromptEntry where
  num      : Nat
  kind     : PromptKind
  level    : Level
  fields   : PromptFields
  raised   : Nat
  shown    : Bool
  heard    : Bool
  resend   : Option Nat
  drop     : DropMark
  deriving DecidableEq, Repr, Inhabited

/-- A clear list record (R165). -/
structure ClearRecord where
  num    : Nat
  reason : ClearReason
  drop   : DropMark
  deriving DecidableEq, Repr, Inhabited

/-! ## Accounts -/

/-- One slot of the live account table (R176); `account` is none for an empty slot. -/
structure Slot where
  account  : Option Nat
  mounts   : Nat
  ring     : Nat
  assisted : Nat
  seconds  : Nat
  deriving DecidableEq, Repr, Inhabited

/-- The live account table: slots 0-62 and the overflow slot 63 (R176). -/
structure AccountTable where
  slots : List Slot
  overflow : Slot
  deriving DecidableEq, Repr, Inhabited

/-- A drive record (R179); its drive number is its place in the table. -/
structure DriveRecord where
  mounts     : Nat
  sinceClean : Nat
  deriving DecidableEq, Repr, Inhabited

/-- An occupancy entry (R181). -/
structure Occupancy where
  drive   : Nat
  account : Nat
  opened  : Nat
  deriving DecidableEq, Repr, Inhabited

/-- Increments (R177). -/
inductive Increment where
  | mount (account : Nat) (ring assisted : Bool)
  | occupancy (account seconds : Nat)
  deriving DecidableEq, Repr, Inhabited

/-- The close record (R173, R183, R184); `lastDue` says that the 64th tick event has come. -/
structure CloseRecord where
  period  : Nat
  next    : Nat
  check   : Word
  lastDue : Bool
  deriving DecidableEq, Repr, Inhabited

/-- The snapshot (R173, R184). -/
structure Snapshot where
  records : List Slot
  period  : Nat
  check   : Word
  deriving DecidableEq, Repr, Inhabited

/-- The retained store (R173). -/
structure RetainedStore where
  table         : AccountTable
  snapshot      : Snapshot
  drives        : List DriveRecord
  occupancy     : List Occupancy
  pendingIncs   : List Increment
  period        : Nat
  closing       : CloseRecord
  storeLost     : Bool
  snapInvalid   : Bool
  snapHeld      : Bool
  closeBusy     : Bool
  accountsFull  : Bool
  occLost       : Nat
  occEstimated  : Nat
  losses        : Nat
  valid         : Bool
  clearedMemory : Bool
  deriving DecidableEq, Repr, Inhabited

/-- The subjects of the Accounting Unit's prompts (R189). -/
inductive Subject where
  | cleanDue (drive : Nat) | accountsFull | storeLost
  deriving DecidableEq, Repr, Inhabited

/-- State of an accounting prompt record (R189). -/
inductive AccStatus where
  | none | wanted | raised (num : Nat)
  deriving DecidableEq, Repr, Inhabited

structure AccRecord where
  subject   : Subject
  status    : AccStatus
  displaced : Bool
  deriving DecidableEq, Repr, Inhabited

end Sys2Proof.Machine
end

