-- ==== Sys2Proof/Config.lean ====
section
/-! DEFINITION. What the model takes from outside the rules: the free value of a store that lost both supplies. -/

namespace Sys2Proof.Machine

/-- The contents of the retained store after VDD and VBAK have both failed (R173: "the contents are lost").
A free value: nothing is known of it but what the rules then do with it (log 14). The argument is the free
counter of the state, so that two losses need not leave the same contents. -/
opaque Config.lostStore : Nat → RetainedStore

end Sys2Proof.Machine
end

