-- ==== Sys2Proof/Machine/State.lean ====
section
/-! DEFINITION. The state of the 6120, block by block, and its value right after reset. -/

namespace Sys2Proof.Machine

/-- Reasons for which a step could stop the machine. The spec gives the 6120 no state in which it stops and no
command without an effect, so there is none: no meaning raises a fault. -/
inductive Fault where
  deriving DecidableEq, Repr

/-- Reasons for which a command could be refused. -/
inductive Refusal where
  /-- Raised only by an arm of `exec` whose command has no meaning yet (safe: the step stops); no arm is so. -/
  | notModelled (mnemonic : String)
  deriving DecidableEq, Repr

/-- Supplies and input levels: VDD, VBAK (R173), DOOR open (R148), CHAIN-IN active (R48). -/
structure Pins where
  vdd     : Bool
  vbak    : Bool
  door    : Bool
  chainIn : Bool
  deriving DecidableEq, Repr

/-- Station Control (R40, R41, R49 to R53). `burstTimer` is the running time to the next burst and
`burstPulses` the pulses of the burst last begun (R51). -/
structure Control where
  mode          : Mode
  cause         : ResetCause
  offline       : OfflineReason
  cfg           : Option ConfigValues
  index         : Option Nat
  tick          : Nat
  second        : Nat
  armed         : Bool
  pulses        : Nat
  orderingTimer : Option Nat
  learningTimer : Option Nat
  burstTimer    : Option BurstWait
  burstPulses   : Nat
  deriving DecidableEq, Repr

/-- The Line Interface Unit (R1, R5, R10 to R25). -/
structure Liu where
  running  : Bool
  divisor  : Nat
  lineBusy : Bool
  receiver : Receiver
  rxq      : List RxEntry
  txq      : List TxEntry
  heldSpan : Option Frame
  access   : Access
  backoff  : BitVec 15
  counters : LineCounters
  deriving DecidableEq, Repr

/-- The Request Unit (R77, R92, R71). `owned` is in order of joining (R66); `rescan` is the model's mark of a
rescan point reached in the present event (R94). -/
structure RequestUnit where
  table   : List Entry
  owned   : List Tag
  active  : Option Tag
  elapsed : Nat
  rescan  : Bool
  deriving DecidableEq, Repr

/-- The Span Unit (R102, R117, R118, R120, R123). `firstFree` says that the WAITING timer's next expiry does not
count (R111). -/
structure SpanUnit where
  own          : Option OwnSpan
  peers        : List PeerSpan
  reservation  : Reservation
  move         : Option Move
  retries      : Nat
  waitTimer    : Option Nat
  firstFree    : Bool
  rest         : Option Nat
  held         : List HeldNudge
  nudges       : List NudgeRecord
  silent       : List SilentPeer
  railLatch    : Bool
  railPrompt   : Option Nat
  restateTimer : Option Nat
  fresh        : Bool
  deriving DecidableEq, Repr

/-- The Carriage Sequencer (R129). `pos` is the last position learnt, `posKnown` whether it is known; `putBack` is
the place a reel of a dropped request goes back to (R151). -/
structure Sequencer where
  record          : Option ReqRecord
  cmd             : Option InFlight
  stop            : Option StopRecord
  pos             : Option Nat
  posKnown        : Bool
  hand            : Hand
  putBack         : Option Place
  handPrompt      : Option Nat
  handReportOwed  : Bool
  handRaiseOwed   : Bool
  fault           : Option FaultRecord
  doorLatch       : Bool
  door            : DoorRecord
  resume          : Option (Command × Purpose)
  doorReportOwed  : Bool
  moveRefused     : Bool
  doneList        : List DoneRecord
  deriving DecidableEq, Repr

/-- The Prompt Unit (R152, R153, R165, R172). -/
structure PromptUnit where
  list    : List PromptEntry
  nextNum : Nat
  clears  : List ClearRecord
  beacon  : Bool
  deriving DecidableEq, Repr

/-- Everything the spec gives the 6120, and the model's free counter (log 14). -/
structure Station where
  pins  : Pins
  ctl   : Control
  liu   : Liu
  req   : RequestUnit
  span  : SpanUnit
  seq   : Sequencer
  prm   : PromptUnit
  acc   : List AccRecord
  store : RetainedStore
  free  : Nat
  deriving DecidableEq, Repr

/-- The machine: the station and the queue of waiting commands, first in, first out. -/
structure State where
  station : Station
  pending : List Instr
  deriving DecidableEq, Repr

/-! ## Values after a reset -/

/-- All nine counters at 0 (R25). -/
def LineCounters.zero : LineCounters := ⟨0, 0, 0, 0, 0, 0, 0, 0, 0⟩

/-- The LIU after a reset of any kind (R25): stopped, empty, HUNT, IDLE, backoff register 1. The divisor 0 and the busy line of a
stopped LIU are DESIGN CHOICE (log 5). -/
def Liu.reset : Liu :=
  { running := false, divisor := 0, lineBusy := true, receiver := .hunt, rxq := [], txq := [], heldSpan := none,
    access := .idle, backoff := 1, counters := LineCounters.zero }

/-- The Request Unit after a reset (R77). -/
def RequestUnit.reset : RequestUnit := { table := [], owned := [], active := none, elapsed := 0, rescan := false }

/-- The Span Unit after a reset (R102). -/
def SpanUnit.reset : SpanUnit :=
  { own := none, peers := [], reservation := .parked, move := none, retries := 0, waitTimer := none,
    firstFree := false, rest := none, held := [], nudges := [], silent := [], railLatch := false,
    railPrompt := none, restateTimer := none, fresh := true }

/-- An empty door record (R129). -/
def DoorRecord.reset : DoorRecord :=
  { numbers := [], heard := false, raised := false, timer := none, raiseOwed := false, prompt := none }

/-- The Carriage Sequencer after a reset (R129). -/
def Sequencer.reset : Sequencer :=
  { record := none, cmd := none, stop := none, pos := none, posKnown := false, hand := .empty, putBack := none,
    handPrompt := none, handReportOwed := false, handRaiseOwed := false, fault := none, doorLatch := false,
    door := DoorRecord.reset, resume := none, doorReportOwed := false, moveRefused := false, doneList := [] }

/-- The Prompt Unit after a reset (R152). -/
def PromptUnit.reset : PromptUnit := { list := [], nextNum := 0, clears := [], beacon := false }

/-- The 34 prompt records of the Accounting Unit, each NONE with its mark clear (R189). -/
def AccRecord.resetAll : List AccRecord :=
  (List.range 32).map (fun d => ⟨.cleanDue d, .none, false⟩) ++
    [⟨.accountsFull, .none, false⟩, ⟨.storeLost, .none, false⟩]

/-- An empty slot (R176). -/
def Slot.empty : Slot := ⟨none, 0, 0, 0, 0⟩

/-- The live account table with no account in slots 0-62 (R174, R186). -/
def AccountTable.cleared : AccountTable := { slots := List.replicate 63 Slot.empty, overflow := ⟨some 4095, 0, 0, 0, 0⟩ }

/-- No snapshot (R174, R187): no record, and period number and check word 0 (DESIGN CHOICE, log 55). -/
def Snapshot.empty : Snapshot := { records := [], period := 0, check := 0 }

/-- The close record with no close in progress. -/
def CloseRecord.idle : CloseRecord := { period := 0, next := 0, check := 0xFFFF, lastDue := false }

/-- The retained store after a store clear (R174). -/
def RetainedStore.cleared : RetainedStore :=
  { table := AccountTable.cleared, snapshot := Snapshot.empty, drives := List.replicate 32 ⟨0, 0⟩, occupancy := [],
    pendingIncs := [], period := 0, closing := CloseRecord.idle, storeLost := true, snapInvalid := false,
    snapHeld := false, closeBusy := false, accountsFull := false, occLost := 0, occEstimated := 0, losses := 0,
    valid := true, clearedMemory := true }

/-- Station Control in a given state with a given cause, everything else as on entry to CONFIG (R40). -/
def Control.start (mode : Mode) (cause : ResetCause) : Control :=
  { mode := mode, cause := cause, offline := .none, cfg := none, index := none, tick := 0, second := 0,
    armed := false, pulses := 0, orderingTimer := none, learningTimer := none, burstTimer := none, burstPulses := 0 }

/-- A station in a given state at the start, with its volatile blocks at their reset values (R25, R40, R77, R102,
R129, R152, R189) over the given pins, store and free counter. -/
def Station.start (mode : Mode) (cause : ResetCause) (pins : Pins) (store : RetainedStore) (free : Nat) : Station :=
  { pins := pins, ctl := Control.start mode cause, liu := Liu.reset, req := RequestUnit.reset,
    span := SpanUnit.reset, seq := Sequencer.reset, prm := PromptUnit.reset, acc := AccRecord.resetAll,
    store := store, free := free }

/-- The machine right after reset: on entry to CONFIG after a power-on that found the store-valid latch clear
(R40, R174), no command waiting. The input levels are DESIGN CHOICE (log 6), the point of the start log 5. -/
def State.reset : State :=
  { station := Station.start .config .powerOn { vdd := true, vbak := true, door := false, chainIn := false }
      RetainedStore.cleared 0,
    pending := [] }

end Sys2Proof.Machine
end

