-- ==== Sys2Proof/Machine/Flags.lean ====
section
/-! DEFINITION. Saturating counters, the frame check, the backoff generator, the conditions HELD and FAULTED, and the
output levels that are functions of the state. -/

namespace Sys2Proof.Machine

/-! ## Counters (00_scope.md 5.1) -/

/-- Addition held at a greatest value. -/
def satAdd (limit a b : Nat) : Nat := min (a + b) limit

/-- One more on a 16-bit counter (R24, R176, R179, R190). -/
def inc16 (a : Nat) : Nat := satAdd 65535 a 1

/-- A countdown timer after one tick event (R41). -/
def countDown : Option Nat → Option Nat
  | none => none
  | some t => some (t - 1)

/-- Whether a countdown timer is running and has run out. -/
def expired (t : Option Nat) : Bool := t == some 0

/-! ## CHECK (R4) -/

/-- One of the eight steps: shift toward the most significant end, combine 0x1021 when the bit shifted out was 1. -/
def crcStep (r : Word) : Word := if r.msb then (r <<< 1) ^^^ 0x1021#16 else r <<< 1

/-- One covered byte, combined into the upper half of the register before its eight steps. -/
def crcByte (r : Word) (b : Byte) : Word :=
  crcStep (crcStep (crcStep (crcStep (crcStep (crcStep (crcStep (crcStep (r ^^^ (b.zeroExtend 16 <<< 8)))))))))

/-- The register after a run of bytes, from a given value (R184 carries it on from record to record). -/
def crcFrom (r : Word) (bytes : List Byte) : Word := bytes.foldl crcByte r

/-- CHECK over a run of bytes: the register starts at 0xFFFF and there is no final inversion. -/
def crc (bytes : List Byte) : Word := crcFrom 0xFFFF#16 bytes

/-! ## The backoff generator (R22) -/

/-- One advance: shifted one place up, the new low bit the exclusive-or of the two top bits before the shift. -/
def backoffAdvance (r : BitVec 15) : BitVec 15 :=
  (r <<< 1) ||| (if r.getLsbD 14 != r.getLsbD 13 then 1#15 else 0#15)

/-- The seed: address times 257 plus order index, low 15 bits, a value of 0 replaced by 1. -/
def backoffSeed (address index : Nat) : BitVec 15 :=
  let v := BitVec.ofNat 15 (address * 257 + index)
  if v = 0 then 1 else v

/-- A draw of 0 to m - 1, for m a power of 2: the low bits of the register (already advanced). -/
def backoffDraw (r : BitVec 15) (m : Nat) : Nat := r.toNat % m

/-! ## Frames' class (R13) -/

/-- SPAN, NUDGE and TAKE are URGENT; every other kind is NORMAL. -/
def Frame.urgent (f : Frame) : Bool := f.kind == 0x31#8 || f.kind == 0x32#8 || f.kind == 0x22#8

/-- The frame is a SPAN (the kind of the one-SPAN rule, R15). -/
def Frame.isSpan (f : Frame) : Bool := f.kind == 0x31#8

/-! ## Conditions (R58) and readings of Station Control -/

/-- HELD is set while the door latch is set. -/
def Station.heldCond (s : Station) : Bool := s.seq.doorLatch

/-- FAULTED is set while a carriage fault is open. -/
def Station.faulted (s : Station) : Bool := s.seq.fault.isSome

/-- READY with neither HELD nor FAULTED set (R79, R84, R94, R108). -/
def Station.fit (s : Station) : Bool := s.ctl.mode == .ready && !s.heldCond && !s.faulted

/-- The configuration values; all zero while no block has been read, when no block asks for them (R62, log 41). -/
def Station.cv (s : Station) : ConfigValues := s.ctl.cfg.getD default

/-- The station's order index k; 0 while none is learnt (R22 takes it so), when no block asks for it. -/
def Station.k (s : Station) : Nat := s.ctl.index.getD 0

/-- The seconds counter. -/
def Station.now (s : Station) : Nat := s.ctl.second

/-! ## Output levels that follow from the state -/

/-- LDE is asserted from the first start bit of a frame being sent to its end, or to the end of the break (R1, R20). -/
def Station.lde (s : Station) : Bool := s.liu.access == .sending || s.liu.access == .breaking

/-- CFG-SEL is asserted while the configuration block is read (R43). -/
def Station.cfgSel (s : Station) : Bool := s.ctl.mode == .config

/-- A level's rank (R159: strictly higher). -/
def Level.rank : Level → Nat
  | .notice => 0
  | .action => 1
  | .urgent => 2

end Sys2Proof.Machine
end

