-- ==== Sys2Proof/Machine/Geometry.lean ====
section
/-! DEFINITION. The Geometry Unit: bands, spans, travel estimates, displacement, offer costs, the conflict test and the
TRAVEL timeout (R62 to R76). -/

namespace Sys2Proof.Machine

/-- The pitch D = 2H + G (R46). -/
def ConfigValues.D (c : ConfigValues) : Nat := 2 * c.H + c.G

/-- The west end of the band of order index k (R63). -/
def ConfigValues.bandLo (c : ConfigValues) (k : Nat) : Nat := c.railLo + k * c.D

/-- The east end of the band of order index k (R63). -/
def ConfigValues.bandHi (c : ConfigValues) (k : Nat) : Nat := c.railHi - (c.n - 1 - k) * c.D

/-- A position lies inside the band (R63). -/
def ConfigValues.inBand (c : ConfigValues) (k x : Nat) : Bool := decide (c.bandLo k ≤ x) && decide (x ≤ c.bandHi k)

/-- The band position nearest x (R64). -/
def ConfigValues.nearest (c : ConfigValues) (k x : Nat) : Nat :=
  if x < c.bandLo k then c.bandLo k else if c.bandHi k < x then c.bandHi k else x

/-- The west end of the span of a stretch of centres: x - H, held at 0 (R65). -/
def ConfigValues.spanLo (c : ConfigValues) (x : Nat) : Nat := x - c.H

/-- The east end of the span of a stretch of centres: y + H, held at 65,535 (R65). -/
def ConfigValues.spanHi (c : ConfigValues) (y : Nat) : Nat := min (y + c.H) 65535

/-- The centre of a span, rounded down (R65). -/
def centre (lo hi : Nat) : Nat := (lo + hi) / 2

/-- The distance between two positions. -/
def dist (x y : Nat) : Nat := if x ≤ y then y - x else x - y

/-- The travel estimate T(d) (R69). -/
def ConfigValues.travel (c : ConfigValues) (d : Nat) : Nat := if d = 0 then 0 else (d + c.V - 1) / c.V + c.R

/-- The timeout of a TRAVEL over a commanded distance (R76). -/
def ConfigValues.travelTimeout (c : ConfigValues) (d : Nat) : Nat := 2 * c.travel d + 200

/-- Two spans conflict unless one ends at least G west of the other (R75). -/
def ConfigValues.conflict (c : ConfigValues) (a1 b1 a2 b2 : Nat) : Bool :=
  !(decide (b1 + c.G ≤ a2) || decide (b2 + c.G ≤ a1))

/-- One offer beats another: a lower cost, or equal costs and a lower index (R74). -/
def Offer.beats (a b : Offer) : Bool := decide (a.cost < b.cost) || (decide (a.cost = b.cost) && decide (a.index < b.index))

/-- The window's place from the configuration (R33, R137). -/
def ConfigValues.windowPlace (c : ConfigValues) : Place :=
  { pos := c.windowPos, east := c.windowEast, tier := c.windowTier, window := true }

/-- A place with the window flag is the configured window (R33, R67). -/
def ConfigValues.resolve (c : ConfigValues) (p : Place) : Place := if p.window then c.windowPlace else p

/-- The source place s of a call: where its reel is picked (R67). -/
def ConfigValues.sourceOf (c : ConfigValues) (call : Call) : Place :=
  match call.kind with
  | .demount => call.drive
  | _ => c.resolve (call.source.getD default)

/-- The destination place t of a call: where its reel is placed, which is its final position (R66, R67). -/
def ConfigValues.targetOf (c : ConfigValues) (call : Call) : Place :=
  match call.kind with
  | .demount => c.resolve (call.ret.getD default)
  | _ => call.drive

/-! ## The cost of a call (R66 to R73) -/

/-- The entry with a tag. -/
def RequestUnit.find (r : RequestUnit) (t : Tag) : Option Entry := r.table.find? fun e => e.call.tag == t

/-- The committed end position e (R66). -/
def Station.committedEnd (s : Station) : Option Nat :=
  match s.req.owned.getLast? with
  | some t => (s.req.find t).map fun e => (s.cv.targetOf e.call).pos
  | none =>
    match s.span.reservation, s.span.move with
    | .granted, some m => some m.target
    | _, _ => s.span.rest

/-- The backlog (R71). -/
def Station.backlog (s : Station) : Nat :=
  match s.req.active with
  | none => 0
  | some t =>
    match s.req.find t with
    | some e => e.estimate.getD 0 - s.req.elapsed
    | none => 0

/-- Serving a call over [lo, hi] would displace a peer (R72). Where lo less its share of pitches falls below 0, no west peer is
displaced. -/
def Station.displaces (s : Station) (lo hi : Nat) (p : PeerSpan) : Bool :=
  if s.k < p.index then decide (centre p.lo p.hi < hi + (p.index - s.k) * s.cv.D)
  else if p.index < s.k then
    decide ((s.k - p.index) * s.cv.D ≤ lo) && decide (lo < centre p.lo p.hi + (s.k - p.index) * s.cv.D)
  else false

/-- The penalties of the displaced peers, or none when one of them cannot be displaced (R72). -/
def Station.penalties (s : Station) (lo hi : Nat) : List PeerSpan → Option Nat
  | [] => some 0
  | p :: ps =>
    match s.penalties lo hi ps with
    | none => none
    | some rest =>
      if s.displaces lo hi p then
        if p.stale then none
        else match p.kind with
          | .parked => some (rest + s.cv.N)
          | .moving => some (rest + s.cv.B)
          | .fixed => none
      else some rest

/-- The base of a call from e (R70). -/
def Station.base (s : Station) (e src dst : Nat) : Nat :=
  s.cv.travel (dist e src) + s.cv.travel (dist src dst) + 2 * s.cv.K

/-- The sum held into 1 to 65,534 (R73). -/
def holdCost (sum : Nat) : Nat := if sum = 0 then 1 else min sum 65534

/-- The offer cost of a call with its base, or none for unreachable (R68, R70 to R73). -/
def Station.cost (s : Station) (call : Call) : Option (Nat × Nat) :=
  match s.committedEnd with
  | none => none
  | some e =>
    let src := (s.cv.sourceOf call).pos
    let dst := (s.cv.targetOf call).pos
    let lo := min e (min src dst)
    let hi := max e (max src dst)
    if s.cv.inBand s.k lo && s.cv.inBand s.k hi && s.cv.inBand s.k s.cv.windowPos then
      match s.penalties lo hi s.span.peers with
      | none => none
      | some pen => some (holdCost (s.base e src dst + s.backlog + pen), s.base e src dst)
    else none

end Sys2Proof.Machine
end

