-- ==== Sys2Proof/Machine/Operands.lean ====
section
/-! DEFINITION. The operand forms: numbers and codes in bytes (R27, R28), every frame body of the catalogue built and
read (R29, R33 to R39), the acceptance checks (R30), and the words of the carriage port (R125, R126). -/

namespace Sys2Proof.Machine

/-! ## Numbers and codes (R27, R28) -/

def byteOf (n : Nat) : Byte := BitVec.ofNat 8 n

/-- A number of two bytes, high byte first. -/
def bytes16 (n : Nat) : List Byte := [byteOf (n / 256), byteOf n]

/-- A number of three bytes, high byte first. -/
def bytes24 (n : Nat) : List Byte := [byteOf (n / 65536), byteOf (n / 256), byteOf n]

def num16 (h l : Byte) : Nat := h.toNat * 256 + l.toNat

def num24 (a b c : Byte) : Nat := a.toNat * 65536 + b.toNat * 256 + c.toNat

/-- A flags byte: the first listed flag is bit 0. -/
def flagByte (b0 b1 b2 b3 b4 : Bool) : Byte :=
  byteOf (b0.toNat + 2 * b1.toNat + 4 * b2.toNat + 8 * b3.toNat + 16 * b4.toNat)

def CallKind.code : CallKind → Byte
  | .mount => 0 | .clean => 1 | .demount => 2

def CallKind.ofCode (b : Byte) : Option CallKind :=
  if b = 0 then some .mount else if b = 1 then some .clean else if b = 2 then some .demount else none

/-- A yes-or-no enumeration with codes 0 and 1: priority (URGENT 1) and direction (WEST 1). -/
def boolOfCode (b : Byte) : Option Bool := if b = 0 then some false else if b = 1 then some true else none

def codeOfBool (b : Bool) : Byte := if b then 1 else 0

def Result.code : Result → Byte
  | .mounted => 0 | .returned => 1 | .declined => 2 | .notFound => 3 | .abandoned => 4

def Result.ofCode (b : Byte) : Option Result :=
  if b = 0 then some .mounted else if b = 1 then some .returned else if b = 2 then some .declined
  else if b = 3 then some .notFound else if b = 4 then some .abandoned else none

def SpanKind.code : SpanKind → Byte
  | .parked => 0 | .moving => 1 | .fixed => 2

def SpanKind.ofCode (b : Byte) : Option SpanKind :=
  if b = 0 then some .parked else if b = 1 then some .moving else if b = 2 then some .fixed else none

def PromptKind.code : PromptKind → Byte
  | .loadWindow => 0 | .cellEmpty => 1 | .serialMismatch => 2 | .ringNeeded => 3 | .slotOccupied => 4
  | .carriageFault => 5 | .doorOpen => 6 | .handLoaded => 7 | .railBlocked => 8 | .stationSilent => 9
  | .requestWaiting => 10 | .cleanDue => 11 | .accountsFull => 12 | .storeLost => 13

/-- The fourteen prompt kinds in the order of their codes. -/
def PromptKind.all : List PromptKind :=
  [.loadWindow, .cellEmpty, .serialMismatch, .ringNeeded, .slotOccupied, .carriageFault, .doorOpen, .handLoaded,
   .railBlocked, .stationSilent, .requestWaiting, .cleanDue, .accountsFull, .storeLost]

def PromptKind.ofCode (b : Byte) : Option PromptKind := PromptKind.all[b.toNat]?

def Level.code : Level → Byte
  | .notice => 0 | .action => 1 | .urgent => 2

def Level.ofCode (b : Byte) : Option Level :=
  if b = 0 then some .notice else if b = 1 then some .action else if b = 2 then some .urgent else none

def ClearReason.code : ClearReason → Byte
  | .answered => 0 | .expired => 1 | .preempted => 2 | .withdrawn => 3

def ClearReason.ofCode (b : Byte) : Option ClearReason :=
  if b = 0 then some .answered else if b = 1 then some .expired else if b = 2 then some .preempted
  else if b = 3 then some .withdrawn else none

def Answer.code : Answer → Byte
  | .cont => 0 | .retry => 1 | .skip => 2 | .accept => 3 | .returnReel => 4 | .window => 5 | .release => 6

/-- The seven answers in the order of their codes. -/
def Answer.all : List Answer := [.cont, .retry, .skip, .accept, .returnReel, .window, .release]

def Answer.ofCode (b : Byte) : Option Answer := Answer.all[b.toNat]?

/-- The which field of the accounting frames (R28, R37). -/
inductive Which where
  | live | closed | drives
  deriving DecidableEq, Repr

def Which.code : Which → Nat
  | .live => 0 | .closed => 1 | .drives => 2

def Which.ofBits (n : Nat) : Option Which :=
  if n = 0 then some .live else if n = 1 then some .closed else if n = 2 then some .drives else none

/-- The status field of a TALLY (R28). -/
inductive TallyStatus where
  | ok | refused | closed
  deriving DecidableEq, Repr

def TallyStatus.code : TallyStatus → Nat
  | .ok => 0 | .refused => 1 | .closed => 2

def TallyStatus.ofBits (n : Nat) : Option TallyStatus :=
  if n = 0 then some .ok else if n = 1 then some .refused else if n = 2 then some .closed else none

/-- Codes of the station state; RESET has none, since a station in RESET posts nothing (R28). -/
def Mode.code : Mode → Nat
  | .reset => 0 | .config => 0 | .ordering => 1 | .learning => 2 | .ready => 3 | .offline => 4

def OfflineReason.code : OfflineReason → Nat
  | .none => 0 | .configBad => 1 | .geometryBad => 2 | .orderFailed => 3 | .orderConflict => 4

def ResetCause.code : ResetCause → Nat
  | .powerOn => 0 | .resetPin => 1 | .restart => 2

/-- A character of a volume serial: space, a digit or a capital letter (R27). -/
def serialChar (b : Byte) : Bool :=
  b == 0x20#8 || (0x30 ≤ b.toNat && b.toNat ≤ 0x39) || (0x41 ≤ b.toNat && b.toNat ≤ 0x5A)

def serialOk (v : List Byte) : Bool := v.length == 6 && v.all serialChar

/-! ## Places and tags (R27) -/

/-- The place byte: bit 7 window, bit 4 side (1 for E), bits 3-0 tier. -/
def Place.flags (p : Place) : Byte := byteOf (128 * p.window.toNat + 16 * p.east.toNat + p.tier)

def Place.bytes (p : Place) : List Byte := bytes16 p.pos ++ [p.flags]

def Place.ofBytes (h l f : Byte) : Place :=
  { pos := num16 h l, east := f.getLsbD 4, tier := f.toNat % 16, window := f.getLsbD 7 }

def Tag.bytes (t : Tag) : List Byte := [byteOf t.ciu, byteOf t.num]

def Tag.ofBytes (c n : Byte) : Tag := ⟨c.toNat, n.toNat⟩

def ciuAddr (a : Nat) : Bool := 40 ≤ a && a ≤ 47

def stationAddr (a : Nat) : Bool := 1 ≤ a && a ≤ 24

/-! ## Addresses in the header (R26) -/

def addrOf (b : Byte) : Nat := b.toNat % 64

/-- SRC of a frame this station posts: its address with the class bit set. -/
def srcByte (addr : Nat) : Byte := byteOf (64 + addr)

/-! ## Messages: the bodies of the seventeen kinds -/

/-- The fields of a PROMPT (R36). -/
structure PromptMsg where
  num    : Nat
  kind   : PromptKind
  level  : Level
  fields : PromptFields
  deriving DecidableEq, Repr

/-- The four store flags (R37). -/
structure StoreFlags where
  lost    : Bool
  invalid : Bool
  held    : Bool
  busy    : Bool
  deriving DecidableEq, Repr

/-- The fields of a TALLY: prefix and records as bytes (R37, R39). -/
structure TallyMsg where
  period  : Nat
  which   : Which
  status  : TallyStatus
  flags   : StoreFlags
  first   : Nat
  records : List Byte
  deriving DecidableEq, Repr

/-- The seventeen kinds with their fields. A MOUNT-CALL and a DEMOUNT-CALL both make a `call`. -/
inductive Msg where
  | call (c : Call)
  | offer (tag : Tag) (cost index : Nat)
  | take (tag : Tag) (cost index : Nat) (loaded : Bool)
  | done (d : Done)
  | span (index : Nat) (kind : SpanKind) (lo hi : Nat) (fresh reassert : Bool)
  | nudge (west : Bool) (boundary requester : Nat)
  | prompt (p : PromptMsg)
  | clear (num : Nat) (reason : ClearReason)
  | reply (station num : Nat) (answer : Answer)
  | tallyAsk (which : Which) (first count : Nat)
  | tally (t : TallyMsg)
  | periodClose (period : Nat)
  | tallyTaken (period : Nat)
  | statusAsk
  | status (body : List Byte)
  | restart
  deriving DecidableEq, Repr

/-- KIND codes (R29). -/
def Msg.code : Msg → Byte
  | .call c => if c.kind = .demount then 0x12 else 0x11
  | .offer .. => 0x21
  | .take .. => 0x22
  | .done _ => 0x23
  | .span .. => 0x31
  | .nudge .. => 0x32
  | .prompt _ => 0x41
  | .clear .. => 0x42
  | .reply .. => 0x43
  | .tallyAsk .. => 0x51
  | .tally _ => 0x52
  | .periodClose _ => 0x53
  | .tallyTaken _ => 0x54
  | .statusAsk => 0x61
  | .status _ => 0x62
  | .restart => 0x63

/-- The KIND codes of the catalogue (R29). -/
def knownKinds : List Byte :=
  [0x11, 0x12, 0x21, 0x22, 0x23, 0x31, 0x32, 0x41, 0x42, 0x43, 0x51, 0x52, 0x53, 0x54, 0x61, 0x62, 0x63]

def knownKind (b : Byte) : Bool := knownKinds.contains b

/-! ### Prompt kinds (R36, R157) -/

/-- Which optional fields a kind carries: 0 not listed, 1 required, 2 either (R36). In the order tag, volume,
position, drive, peer. -/
def PromptKind.fieldRule : PromptKind → List Nat
  | .loadWindow => [1, 1, 0, 0, 0]
  | .cellEmpty => [1, 1, 1, 0, 0]
  | .serialMismatch => [1, 1, 0, 0, 0]
  | .ringNeeded => [1, 1, 0, 0, 0]
  | .slotOccupied => [1, 1, 1, 2, 0]
  | .carriageFault => [2, 0, 1, 0, 0]
  | .doorOpen => [0, 0, 0, 0, 0]
  | .handLoaded => [0, 0, 1, 0, 0]
  | .railBlocked => [0, 0, 1, 0, 0]
  | .stationSilent => [0, 0, 0, 0, 1]
  | .requestWaiting => [1, 1, 0, 0, 0]
  | .cleanDue => [0, 0, 0, 1, 0]
  | .accountsFull => [0, 0, 0, 0, 0]
  | .storeLost => [0, 0, 0, 0, 0]

def fieldAllowed (rule : Nat) (present : Bool) : Bool := if rule = 0 then !present else rule = 2 || present

def PromptFields.presence (f : PromptFields) : List Bool :=
  [f.tag.isSome, f.volume.isSome, f.pos.isSome, f.drive.isSome, f.peer.isSome]

/-- Every required field present and none that is not listed (R36). -/
def PromptFields.fits (f : PromptFields) (k : PromptKind) : Bool :=
  ((k.fieldRule.zip f.presence).all fun p => fieldAllowed p.1 p.2)

/-- The values of the optional fields are in range (R30). -/
def PromptFields.inRange (f : PromptFields) : Bool :=
  (f.tag.all fun t => ciuAddr t.ciu) && (f.volume.all serialOk) && (f.drive.all fun d => d ≤ 31) &&
    (f.peer.all stationAddr)

/-- The presence byte and the optional fields, in the order of R36. -/
def PromptFields.bytes (f : PromptFields) : List Byte :=
  flagByte f.tag.isSome f.volume.isSome f.pos.isSome f.drive.isSome f.peer.isSome ::
    ((f.tag.elim [] Tag.bytes) ++ (f.volume.getD []) ++ (f.pos.elim [] bytes16) ++
      (f.drive.elim [] fun d => [byteOf d]) ++ (f.peer.elim [] fun a => [byteOf a]))

/-- Reads `count` bytes when the flag is set. -/
def takeField (present : Bool) (count : Nat) (b : List Byte) : Option (Option (List Byte) × List Byte) :=
  if present then (if count ≤ b.length then some (some (b.take count), b.drop count) else none) else some (none, b)

def tagOf : List Byte → Option Tag
  | [c, n] => some (Tag.ofBytes c n)
  | _ => none

def num16Of : List Byte → Option Nat
  | [h, l] => some (num16 h l)
  | _ => none

def num8Of : List Byte → Option Nat
  | [b] => some b.toNat
  | _ => none

/-- Reads the optional fields after the presence byte; the LEN must be exactly theirs (R30, check 5). -/
def PromptFields.ofBytes (presence : Byte) (b : List Byte) : Option PromptFields :=
  match takeField (presence.getLsbD 0) 2 b with
  | none => none
  | some (t, b1) =>
    match takeField (presence.getLsbD 1) 6 b1 with
    | none => none
    | some (v, b2) =>
      match takeField (presence.getLsbD 2) 2 b2 with
      | none => none
      | some (p, b3) =>
        match takeField (presence.getLsbD 3) 1 b3 with
        | none => none
        | some (d, b4) =>
          match takeField (presence.getLsbD 4) 1 b4 with
          | none => none
          | some (a, b5) =>
            if b5 = [] then
              some { tag := t.bind tagOf, volume := v, pos := p.bind num16Of, drive := d.bind num8Of,
                     peer := a.bind num8Of }
            else none

/-! ### Accounting records (R37, R39) -/

/-- The 11 bytes of an account record; account 65535 with counts 0 for an empty slot. -/
def Slot.bytes (r : Slot) : List Byte :=
  bytes16 (r.account.getD 65535) ++ bytes16 r.mounts ++ bytes16 r.ring ++ bytes16 r.assisted ++ bytes24 r.seconds

/-- The 5 bytes of a drive record. -/
def DriveRecord.bytes (number : Nat) (d : DriveRecord) : List Byte :=
  byteOf number :: (bytes16 d.mounts ++ bytes16 d.sinceClean)

/-- Account records: whole records of 11 bytes, each with account 0-4095 or 65535 (R30). -/
def accountRecordsOk : List Byte → Bool
  | [] => true
  | a :: b :: _ :: _ :: _ :: _ :: _ :: _ :: _ :: _ :: _ :: rest =>
    (decide (num16 a b ≤ 4095) || num16 a b == 65535) && accountRecordsOk rest
  | _ => false

/-- Drive records: whole records of 5 bytes, each with a drive number 0-31 (R30). -/
def driveRecordsOk : List Byte → Bool
  | [] => true
  | d :: _ :: _ :: _ :: _ :: rest => decide (d.toNat ≤ 31) && driveRecordsOk rest
  | _ => false

/-- The records part of a TALLY fits its which field (R29, R30). -/
def tallyRecordsOk (w : Which) (r : List Byte) : Bool :=
  match w with
  | .drives => decide (r.length ≤ 40) && driveRecordsOk r
  | _ => decide (r.length ≤ 44) && accountRecordsOk r

def StoreFlags.nibble (f : StoreFlags) : Nat :=
  f.lost.toNat + 2 * f.invalid.toNat + 4 * f.held.toNat + 8 * f.busy.toNat

/-- Offset 2 of the TALLY prefix (R39). -/
def tallyPacked (w : Which) (st : TallyStatus) (f : StoreFlags) : Byte :=
  byteOf (w.code + 4 * st.code + 16 * f.nibble)

/-! ### STATUS (R38) -/

/-- A result agrees with its call kind (R30). -/
def resultAllowed (k : CallKind) (r : Result) : Bool :=
  match r with
  | .mounted => k == .mount || k == .clean
  | .returned => k == .demount
  | _ => true

/-- The field checks of a STATUS: codes of R28, order index below n or 255 (R30, R38, log 34). -/
def statusBodyOk (n : Nat) (b : List Byte) : Bool :=
  match b with
  | st :: _ :: off :: idx :: cause :: _ :: _ :: _ :: rest =>
    decide (b.length = 41) && decide (st.toNat ≤ 4) && decide (off.toNat ≤ 4) &&
      (decide (idx.toNat < n) || idx.toNat == 255) && decide (cause.toNat ≤ 2) &&
      (rest.take 8).all fun r => decide (r.toNat ≤ 5)
  | _ => false

/-! ### Bodies -/

def callBytes (c : Call) : List Byte :=
  match c.kind with
  | .demount =>
    [byteOf c.tag.num, codeOfBool c.urgent] ++ c.volume ++ bytes16 c.account ++ [byteOf c.driveNo] ++
      c.drive.bytes ++ (c.ret.elim [] Place.bytes)
  | k =>
    [byteOf c.tag.num, k.code, codeOfBool c.urgent, flagByte c.ring false false false false] ++ c.volume ++
      bytes16 c.account ++ (c.source.elim [] Place.bytes) ++ [byteOf c.driveNo] ++ c.drive.bytes

/-- The body of a message (R33 to R39). -/
def Msg.body : Msg → List Byte
  | .call c => callBytes c
  | .offer t cost i => t.bytes ++ bytes16 cost ++ [byteOf i]
  | .take t cost i loaded => t.bytes ++ bytes16 cost ++ [byteOf i, flagByte loaded false false false false]
  | .done d =>
    d.tag.bytes ++ [d.kind.code, d.result.code, byteOf d.driveNo] ++ d.volume ++ bytes16 d.account ++
      [flagByte d.ring d.assisted false false false]
  | .span i k lo hi fr ra => [byteOf i, k.code] ++ bytes16 lo ++ bytes16 hi ++ [flagByte fr ra false false false]
  | .nudge w b i => [codeOfBool w] ++ bytes16 b ++ [byteOf i]
  | .prompt p => [byteOf p.num, p.kind.code, p.level.code] ++ p.fields.bytes
  | .clear n r => [byteOf n, r.code]
  | .reply st n a => [byteOf st, byteOf n, a.code]
  | .tallyAsk w f c => [byteOf w.code, byteOf f, byteOf c]
  | .tally t => bytes16 t.period ++ [tallyPacked t.which t.status t.flags, byteOf t.first] ++ t.records
  | .periodClose p => bytes16 p
  | .tallyTaken p => bytes16 p
  | .statusAsk => []
  | .status b => b
  | .restart => []

/-- The frame a station at `addr` posts for a message, to a destination (R26, R29). -/
def Msg.frame (m : Msg) (addr dst : Nat) : Frame :=
  { kind := m.code, src := srcByte addr, dst := byteOf dst, body := m.body }

/-! ## Acceptance (R30): header checks, then the fields -/

/-- The senders R29 gives for a kind. -/
def senderOk (kind : Byte) (a : Nat) : Bool :=
  if kind = 0x11 ∨ kind = 0x12 then ciuAddr a
  else if kind = 0x43 ∨ kind = 0x63 then a == 60
  else if kind = 0x51 ∨ kind = 0x53 ∨ kind = 0x54 then a == 61
  else if kind = 0x61 then a == 60 || a == 61
  else stationAddr a

/-- Header checks 1 to 4. -/
def headerOk (f : Frame) : Bool :=
  let a := addrOf f.src
  let d := addrOf f.dst
  (stationAddr a || ciuAddr a || a == 60 || a == 61) &&
  (f.src.getLsbD 6 == stationAddr a) &&
  senderOk f.kind a &&
  (stationAddr d || ciuAddr d || d == 60 || d == 61 || d == 63)

/-- Answers `some x` when the check holds. -/
def guarded {α : Type} (b : Bool) (x : α) : Option α := if b then some x else none

/-- The fields of a MOUNT-CALL heard from the CIU at `ciu` (R33, R39). -/
def readMountCall (ciu : Nat) : List Byte → Option Msg
  | [num, kind, prio, flags, v1, v2, v3, v4, v5, v6, ah, al, sh, sl, sf, drv, dh, dl, df] =>
    match CallKind.ofCode kind, boolOfCode prio with
    | some k, some u =>
      guarded (k != .demount && serialOk [v1, v2, v3, v4, v5, v6] && decide (num16 ah al ≤ 4094) &&
          decide (drv.toNat ≤ 31) && !df.getLsbD 7)
        (.call { tag := ⟨ciu, num.toNat⟩, kind := k, urgent := u, volume := [v1, v2, v3, v4, v5, v6],
                 account := num16 ah al, ring := flags.getLsbD 0, source := some (Place.ofBytes sh sl sf),
                 driveNo := drv.toNat, drive := Place.ofBytes dh dl df, ret := none })
    | _, _ => none
  | _ => none

/-- The fields of a DEMOUNT-CALL (R33). -/
def readDemountCall (ciu : Nat) : List Byte → Option Msg
  | [num, prio, v1, v2, v3, v4, v5, v6, ah, al, drv, dh, dl, df, rh, rl, rf] =>
    match boolOfCode prio with
    | some u =>
      guarded (serialOk [v1, v2, v3, v4, v5, v6] && decide (num16 ah al ≤ 4094) && decide (drv.toNat ≤ 31) &&
          !df.getLsbD 7)
        (.call { tag := ⟨ciu, num.toNat⟩, kind := .demount, urgent := u, volume := [v1, v2, v3, v4, v5, v6],
                 account := num16 ah al, ring := false, source := none, driveNo := drv.toNat,
                 drive := Place.ofBytes dh dl df, ret := some (Place.ofBytes rh rl rf) })
    | none => none
  | _ => none

def readOffer (n : Nat) : List Byte → Option Msg
  | [c, t, h, l, i] =>
    guarded (ciuAddr c.toNat && decide (1 ≤ num16 h l) && decide (num16 h l ≤ 65534) && decide (i.toNat < n))
      (.offer (Tag.ofBytes c t) (num16 h l) i.toNat)
  | _ => none

def readTake (n : Nat) : List Byte → Option Msg
  | [c, t, h, l, i, fl] =>
    guarded (ciuAddr c.toNat && decide (num16 h l ≤ 65534) && decide (i.toNat < n))
      (.take (Tag.ofBytes c t) (num16 h l) i.toNat (fl.getLsbD 0))
  | _ => none

def readDone : List Byte → Option Msg
  | [c, t, k, r, drv, v1, v2, v3, v4, v5, v6, ah, al, fl] =>
    match CallKind.ofCode k, Result.ofCode r with
    | some k', some r' =>
      guarded (ciuAddr c.toNat && resultAllowed k' r' && decide (drv.toNat ≤ 31) &&
          serialOk [v1, v2, v3, v4, v5, v6] && decide (num16 ah al ≤ 4094))
        (.done { tag := Tag.ofBytes c t, kind := k', result := r', driveNo := drv.toNat,
                 volume := [v1, v2, v3, v4, v5, v6], account := num16 ah al, ring := fl.getLsbD 0,
                 assisted := fl.getLsbD 1 })
    | _, _ => none
  | _ => none

def readSpan (n : Nat) : List Byte → Option Msg
  | [i, k, lh, ll, hh, hl, fl] =>
    match SpanKind.ofCode k with
    | some k' =>
      guarded (decide (i.toNat < n) && decide (num16 lh ll ≤ num16 hh hl))
        (.span i.toNat k' (num16 lh ll) (num16 hh hl) (fl.getLsbD 0) (fl.getLsbD 1))
    | none => none
  | _ => none

def readNudge (n : Nat) : List Byte → Option Msg
  | [d, h, l, i] =>
    match boolOfCode d with
    | some w => guarded (decide (i.toNat < n)) (.nudge w (num16 h l) i.toNat)
    | none => none
  | _ => none

def readPrompt : List Byte → Option Msg
  | num :: k :: lv :: presence :: rest =>
    match PromptKind.ofCode k, Level.ofCode lv, PromptFields.ofBytes presence rest with
    | some k', some l', some f =>
      guarded (f.fits k' && f.inRange) (.prompt { num := num.toNat, kind := k', level := l', fields := f })
    | _, _, _ => none
  | _ => none

def readClear : List Byte → Option Msg
  | [num, r] =>
    match ClearReason.ofCode r with
    | some r' => some (.clear num.toNat r')
    | none => none
  | _ => none

def readReply : List Byte → Option Msg
  | [st, num, a] =>
    match Answer.ofCode a with
    | some a' => guarded (stationAddr st.toNat) (.reply st.toNat num.toNat a')
    | none => none
  | _ => none

def readTallyAsk : List Byte → Option Msg
  | [w, f, c] =>
    match Which.ofBits w.toNat with
    | some w' =>
      guarded (decide (1 ≤ c.toNat) && decide (c.toNat ≤ (if w' = .drives then 8 else 4)))
        (.tallyAsk w' f.toNat c.toNat)
    | none => none
  | _ => none

def readTally : List Byte → Option Msg
  | ph :: pl :: packed :: first :: records =>
    match Which.ofBits (packed.toNat % 4), TallyStatus.ofBits (packed.toNat / 4 % 4) with
    | some w, some st =>
      guarded (tallyRecordsOk w records)
        (.tally { period := num16 ph pl, which := w, status := st,
                  flags := ⟨packed.getLsbD 4, packed.getLsbD 5, packed.getLsbD 6, packed.getLsbD 7⟩,
                  first := first.toNat, records := records })
    | _, _ => none
  | _ => none

/-- A period number of 1-65535. -/
def readPeriod : List Byte → Option Nat
  | [h, l] => guarded (decide (1 ≤ num16 h l)) (num16 h l)
  | _ => none

/-- The fields of a frame of a known kind, by its KIND (R29, R30). `n` is the station count of the receiver. -/
def readBody (n : Nat) (f : Frame) : Option Msg :=
  if f.kind = 0x11 then readMountCall (addrOf f.src) f.body
  else if f.kind = 0x12 then readDemountCall (addrOf f.src) f.body
  else if f.kind = 0x21 then readOffer n f.body
  else if f.kind = 0x22 then readTake n f.body
  else if f.kind = 0x23 then readDone f.body
  else if f.kind = 0x31 then readSpan n f.body
  else if f.kind = 0x32 then readNudge n f.body
  else if f.kind = 0x41 then readPrompt f.body
  else if f.kind = 0x42 then readClear f.body
  else if f.kind = 0x43 then readReply f.body
  else if f.kind = 0x51 then readTallyAsk f.body
  else if f.kind = 0x52 then readTally f.body
  else if f.kind = 0x53 then (readPeriod f.body).map .periodClose
  else if f.kind = 0x54 then (readPeriod f.body).map .tallyTaken
  else if f.kind = 0x61 then guarded (f.body == []) .statusAsk
  else if f.kind = 0x62 then guarded (statusBodyOk n f.body) (.status f.body)
  else if f.kind = 0x63 then guarded (f.body == []) .restart
  else none

/-- The acceptance checks: the message of a frame taken whole, or none for a frame refused whole (R30). -/
def accept (n : Nat) (f : Frame) : Option Msg := if headerOk f then readBody n f else none

/-! ## The characters of a frame on the line (R3, R4) -/

/-- The bytes CHECK covers: LEN through the last byte of the body. -/
def Frame.covered (f : Frame) : List Byte := byteOf f.body.length :: f.kind :: f.src :: f.dst :: f.body

/-- The characters from LEN through the second CHECK character, as the LIU sends them. -/
def Frame.chars (f : Frame) : List Byte :=
  f.covered ++ [((crc f.covered) >>> 8).truncate 8, (crc f.covered).truncate 8]

/-- A frame on the line: the sync pair, then its characters. -/
def Frame.onLine (f : Frame) : List Byte := 0x96#8 :: 0x69#8 :: f.chars

/-- The levels of a character in line order, mark as true (R2): the start bit, the 8 data bits least significant first, the stop
bit. -/
def charLevels (b : Byte) : List Bool := false :: ((List.range 8).map b.getLsbD ++ [true])

/-- The levels a frame is sent as, its characters back to back (R2). -/
def Frame.levels (f : Frame) : List Bool := f.onLine.flatMap charLevels

/-! ## One character as the receiver samples it (R2) -/

/-- What the receiver makes of the levels it samples from the leading edge of a start bit on (R2). -/
inductive CharEvent where
  | noise
  | char (b : Byte)
  | framingError
  | lineBreak
  | unfinished
  deriving DecidableEq, Repr

/-- The byte of eight data bits, least significant first (R2). -/
def byteOfBits (bits : List Bool) : Byte := BitVec.ofNat 8 (bits.foldr (fun b n => b.toNat + 2 * n) 0)

/-- The levels from the stop bit at space on (R2): a mark before 24 bit times have passed since the edge makes a framing error,
space until then a break. The line is watched from the stop bit on (DEDUCED, log 46). -/
def readFault (watched : List Bool) : CharEvent :=
  if (watched.take 15).any id then .framingError else if 15 ≤ watched.length then .lineBreak else .unfinished

/-- The levels sampled at the centre of each bit time since the edge (R2): a start bit at mark is noise, a stop bit at mark
completes the character, a stop bit at space is a framing fault. -/
def readChar : List Bool → CharEvent
  | true :: _ => .noise
  | false :: rest =>
    match rest.drop 8 with
    | [] => .unfinished
    | true :: _ => .char (byteOfBits (rest.take 8))
    | false :: more => readFault (false :: more)
  | [] => .unfinished

/-! ## The frame as the receiver assembles it (R6 to R8) -/

/-- What the receiver has assembled at the second CHECK character. -/
inductive Assembled where
  | notAFrame
  | badCheck
  | good (f : Frame)
  deriving DecidableEq, Repr

/-- Reads the characters from LEN through CHECK: LEN at most 48, LEN body characters, CHECK compared high byte
first (R7, R8). -/
def assemble : List Byte → Assembled
  | len :: kind :: src :: dst :: rest =>
    if len.toNat ≤ 48 ∧ rest.length = len.toNat + 2 then
      let body := rest.take len.toNat
      let check := rest.drop len.toNat
      let want := crc (len :: kind :: src :: dst :: body)
      if check = [(want >>> 8).truncate 8, want.truncate 8] then .good { kind, src, dst, body } else .badCheck
    else .notAFrame
  | _ => .notAFrame

/-- The receiver in HUNT or SYNC after one more character (R6). -/
def huntChar (r : Receiver) (c : Byte) : Receiver :=
  match r with
  | .hunt => if c = 0x96 then .sync else .hunt
  | .sync => if c = 0x69 then .header [] else if c = 0x96 then .sync else .hunt
  | r => r

/-- The characters taken since the sync pair run to the second CHECK character: LEN, KIND, SRC, DST, the body of LEN characters,
two of CHECK (R3, R7). -/
def frameEnded : List Byte → Bool
  | len :: rest => decide (len.toNat + 5 ≤ rest.length)
  | [] => false

/-! ## The carriage port (R125, R126) -/

/-- Word 2 of PICK and PLACE: bit 4 side, bits 3-0 tier. -/
def placeWord (p : Place) : Word := BitVec.ofNat 16 (16 * p.east.toNat + p.tier)

/-- The command code, bits 11-8 of a status word. -/
def Command.code : Command → Nat
  | .travel _ => 1 | .pick _ => 2 | .place _ => 3 | .readLabel => 4 | .ringCheck => 5 | .report => 6

/-- The words written on the port for a command (R125). -/
def Command.words : Command → List Word
  | .travel t => [0x0001, BitVec.ofNat 16 t]
  | .pick p => [0x0002, placeWord p]
  | .place p => [0x0003, placeWord p]
  | .readLabel => [0x0004]
  | .ringCheck => [0x0005]
  | .report => [0x0006]

/-- The word of STOP (R125). -/
def stopWords : List Word := [0x0007]

/-- The command code a status word names, bits 11-8. -/
def statusCommand (w : Word) : Nat := w.toNat / 256 % 16

/-- The completion code of a status word, bits 2-0; 5-7 are taken as FAULT (R126). -/
def statusCode (w : Word) : Code :=
  match w.toNat % 8 with
  | 0 => .ok | 1 => .empty | 2 => .occupied | 3 => .stopped | _ => .fault

/-- A completion code as taken for a command: one that is not valid for it is FAULT (R126). `stopSent` says that a
STOP was issued while the command was in flight. -/
def validCode (cmd : Command) (stopSent : Bool) (c : Code) : Code :=
  match c with
  | .ok => .ok
  | .empty => (match cmd with | .pick _ => .empty | _ => .fault)
  | .occupied => (match cmd with | .place _ => .occupied | _ => .fault)
  | .stopped => if stopSent then .stopped else .fault
  | .fault => .fault

/-- The six characters of the label words, first character in the high byte (R125). -/
def labelChars (w1 w2 w3 : Word) : List Byte :=
  [(w1 >>> 8).truncate 8, w1.truncate 8, (w2 >>> 8).truncate 8, w2.truncate 8, (w3 >>> 8).truncate 8, w3.truncate 8]

/-- A label matches when it is readable and its six characters are the volume serial (R126, R135). -/
def labelMatches (unreadable w1 w2 w3 : Word) (volume : List Byte) : Bool :=
  unreadable == 0 && (labelChars w1 w2 w3).all serialChar && labelChars w1 w2 w3 == volume

end Sys2Proof.Machine
end

