-- ==== Sys2Proof/Machine/Line.lean ====
section
/-! DEFINITION. The Line Interface Unit's shared operations: the transmit queue, the held SPAN place, line access and the
backoff draw, collision and hearing back, the receive queue (R6 to R23). -/

namespace Sys2Proof.Machine

/-- A transmit queue entry as it joins: 0 collisions, a window of 8 (R13). -/
def TxEntry.fresh (b : Block) (f : Frame) : TxEntry := { frame := f, poster := b, collisions := 0, window := 8, collided := false }

/-- A frame is in progress from the sync pair until the receiver returns to HUNT (R5). -/
def Receiver.inProgress : Receiver → Bool
  | .header _ | .body _ => true
  | .hunt | .sync => false

/-! ## The draw and the wait (R18, R22) -/

/-- The slots drawn for a head frame from an advanced register: 0-3 for URGENT, 4 plus 0 to window - 1 for NORMAL. -/
def drawSlots (e : TxEntry) (r : BitVec 15) : Nat :=
  if e.frame.urgent then backoffDraw r 4 else 4 + backoffDraw r e.window

/-- In GAP-WAIT the wait is drawn once the line is idle and the receive queue has a free place (R18). -/
def Liu.tryDraw (l : Liu) : Liu :=
  match l.txq with
  | [] => l
  | e :: _ =>
    if l.access = .gapWait ∧ l.lineBusy = false ∧ l.rxq.length ≤ 3 then
      { l with backoff := backoffAdvance l.backoff, access := .slotWait (drawSlots e (backoffAdvance l.backoff)) }
    else l

/-- A wait in SLOT-WAIT ends because the head changed; the new head's wait is drawn, or the access is IDLE when the
queue is empty (R19). In GAP-WAIT an emptied queue gives IDLE (R18). -/
def Liu.headChanged (l : Liu) : Liu :=
  match l.access with
  | .slotWait _ => if l.txq = [] then { l with access := .idle } else { l with access := .gapWait }.tryDraw
  | .gapWait => if l.txq = [] then { l with access := .idle } else l
  | _ => l

/-! ## Joining the queue (R13, R14) -/

/-- The place of a joining frame: the last of its class, behind every URGENT frame (R13). -/
def insertByClass (e : TxEntry) : List TxEntry → List TxEntry
  | [] => [e]
  | x :: xs => if e.frame.urgent ∧ ¬ x.frame.urgent then e :: x :: xs else x :: insertByClass e xs

/-- The queue after a frame joined it; a frame in transmission stays at the head (R13). -/
def Liu.insert (l : Liu) (e : TxEntry) : List TxEntry :=
  match l.access, l.txq with
  | .sending, x :: xs => x :: insertByClass e xs
  | _, q => insertByClass e q

/-- A frame joins the queue: the access leaves IDLE, or a new head draws a new wait (R18, R19). -/
def Liu.join (l : Liu) (e : TxEntry) : Liu :=
  let l' := { l with txq := l.insert e }
  match l.access with
  | .idle => { l' with access := .gapWait }.tryDraw
  | .slotWait _ => if l'.txq.head? = l.txq.head? then l' else l'.headChanged
  | _ => l'

/-- The NORMAL frame posted most recently and the queue without it (R14). -/
def removeLastNormal : List TxEntry → Option (TxEntry × List TxEntry)
  | [] => none
  | x :: xs =>
    match removeLastNormal xs with
    | some (v, xs') => some (v, x :: xs')
    | none => if x.frame.urgent then none else some (x, xs)

/-- As `removeLastNormal`, leaving a frame in transmission out of the choice (R14). -/
def Liu.displaceable (l : Liu) : Option (TxEntry × List TxEntry) :=
  match l.access, l.txq with
  | .sending, x :: xs => (removeLastNormal xs).map fun p => (p.1, x :: p.2)
  | _, q => removeLastNormal q

/-- One more on the drops count. -/
def Liu.countDrop (l : Liu) : Liu := { l with counters := { l.counters with drops := inc16 l.counters.drops } }

/-- Posting a frame under the four cases of R14: the LIU afterwards, and the frame dropped or displaced, if any. -/
def Liu.post (l : Liu) (e : TxEntry) : Liu × Option TxEntry :=
  if l.txq.length ≤ 5 then (l.join e, none)
  else if e.frame.urgent then
    match l.displaceable with
    | some (victim, q) => ({ l.countDrop with txq := q }.join e, some victim)
    | none => (l.countDrop, some e)
  else (l.countDrop, some e)

/-! ## The one-SPAN rule (R15, R16) -/

/-- A SPAN is in transmission. -/
def Liu.spanInTransmission (l : Liu) : Bool :=
  l.access == .sending && (match l.txq with | x :: _ => x.frame.isSpan | [] => false)

/-- A SPAN of this station is queued. -/
def Liu.spanQueued (l : Liu) : Bool := l.txq.any fun x => x.frame.isSpan

/-- The queued SPAN's place taken by another SPAN, with 0 collisions (R15). -/
def replaceSpan (e : TxEntry) : List TxEntry → List TxEntry
  | [] => []
  | x :: xs => if x.frame.isSpan then e :: xs else x :: replaceSpan e xs

/-- The queue without its SPAN. -/
def removeSpan : List TxEntry → List TxEntry
  | [] => []
  | x :: xs => if x.frame.isSpan then xs else x :: removeSpan xs

/-- Posting a SPAN of this station (R15). -/
def Liu.postSpan (l : Liu) (f : Frame) : Liu × Option TxEntry :=
  if l.spanInTransmission then ({ l with heldSpan := some f }, none)
  else if l.spanQueued then
    let l' := { l with txq := replaceSpan (TxEntry.fresh .span f) l.txq }
    (if (l.txq.head?.any fun x => x.frame.isSpan) then l'.headChanged else l', none)
  else l.post (TxEntry.fresh .span f)

/-- Withdrawing the SPAN (R16): the LIU afterwards, and whether the answer is "too late". -/
def Liu.withdrawSpan (l : Liu) : Liu × Bool :=
  if l.spanInTransmission then ({ l with heldSpan := none }, true)
  else
    let l' := { l with heldSpan := none, txq := removeSpan l.txq }
    (if (l.txq.head?.any fun x => x.frame.isSpan) then l'.headChanged else l', false)

/-! ## The line (R7, R9, R17) -/

/-- The line is sampled at space: it is busy, and a wait in progress is discarded (R17, R19). -/
def Liu.sampleSpace (l : Liu) : Liu :=
  { l with lineBusy := true, access := (match l.access with | .slotWait _ => .gapWait | a => a) }

/-- One more on the malformed count, the receiver in HUNT (R7, R9). -/
def Liu.malformed (l : Liu) : Liu :=
  { l with receiver := .hunt, counters := { l.counters with malformed := inc16 l.counters.malformed } }

/-- The end of a gap (R7, R17): a partial frame is malformed, the line is idle, a wait may be drawn. A station that is
sending or breaking drives the line itself, and no gap ends then. -/
def Liu.gapEnd (l : Liu) : Liu :=
  if l.access = .sending ∨ l.access = .breaking then l
  else
    let l' := if l.receiver.inProgress then l.malformed else l
    { l' with lineBusy := false }.tryDraw

/-- A break is recognised (R9): a frame in progress is discarded and counted unless the station was sending at the
break's edge or sends the break itself. -/
def Liu.breakHeard (l : Liu) : Liu :=
  let l' := l.sampleSpace
  if l.receiver.inProgress ∧ ¬ (l.access = .sending ∨ l.access = .breaking) then
    { l' with receiver := .hunt, counters := { l.counters with abortsHeard := inc16 l.counters.abortsHeard } }
  else { l' with receiver := .hunt }

/-! ## The receive queue (R10, R11) -/

/-- A good frame is offered to the receive queue (R10). -/
def Liu.enqueue (l : Liu) (e : RxEntry) : Liu :=
  if l.rxq.length ≤ 3 then { l with rxq := l.rxq ++ [e] }
  else { l with counters := { l.counters with overruns := inc16 l.counters.overruns } }

/-- The head frame leaves the receive queue, and a wait held back by the full queue is drawn (R11, R18). -/
def Liu.dequeue (l : Liu) : Liu := { l with rxq := l.rxq.tail }.tryDraw

/-! ## Characters (R6 to R8) -/

/-- The second CHECK character has come (R8): the receiver hunts again; a good frame is offered to the receive queue, one whose
check fails is counted. While the station sends, the frame that ends is its own and HEARD_BACK offers it (R23, log 17). -/
def Liu.frameEnd (l : Liu) (chars : List Byte) : Liu :=
  let l' := { l with receiver := .hunt }
  if l.access = .sending then l'
  else
    match assemble chars with
    | .notAFrame => l'
    | .badCheck => { l' with counters := { l.counters with crcErrors := inc16 l.counters.crcErrors } }
    | .good f => l'.enqueue { frame := f, own := false }

/-- A complete character reaches the frame assembly (R5 to R8); its start bit was sampled at space (R17). -/
def Liu.takeChar (l : Liu) (c : Byte) : Liu :=
  let busy := l.sampleSpace
  match l.receiver with
  | .header [] => if 49 ≤ c.toNat then busy.malformed else { busy with receiver := .header [c] }
  | .header got => { busy with receiver := if got.length ≤ 2 then .header (got ++ [c]) else .body (got ++ [c]) }
  | .body got =>
    if frameEnded (got ++ [c]) then busy.frameEnd (got ++ [c]) else { busy with receiver := .body (got ++ [c]) }
  | r => { busy with receiver := huntChar r c }

/-- A run of complete characters reaches the frame assembly, one after the other. -/
def Liu.takeChars (l : Liu) (chars : List Byte) : Liu := chars.foldl Liu.takeChar l

/-! ## Sending, collision, hearing back (R18, R20, R21, R23) -/

/-- The wait ends and the head frame is sent; its start bit makes the line busy (R17, R18). -/
def Liu.startSending (l : Liu) : Liu :=
  match l.access, l.txq with
  | .slotWait _, _ :: _ => { l with access := .sending, lineBusy := true }
  | _, _ => l

/-- The collided frame's place: the head of its class (R20). -/
def requeueCollided (e : TxEntry) : List TxEntry → List TxEntry
  | [] => [e]
  | x :: xs => if x.frame.urgent ∧ ¬ e.frame.urgent then x :: requeueCollided e xs else e :: x :: xs

/-- A readback mismatch (R20): the counts rise, the break begins, a partial frame is discarded uncounted (R9), and a
held SPAN takes a collided SPAN's place at once (R15), at its eighth collision too (DESIGN CHOICE, log 72). -/
def Liu.collide (l : Liu) : Liu :=
  match l.access, l.txq with
  | .sending, e :: rest =>
    let l' := { l with access := .breaking, lineBusy := true, receiver := .hunt,
                       counters := { l.counters with collisions := inc16 l.counters.collisions } }
    match e.frame.isSpan, l.heldSpan with
    | true, some f => { l' with txq := TxEntry.fresh .span f :: rest, heldSpan := none }
    | _, _ =>
      { l' with txq := requeueCollided { e with collisions := satAdd 8 e.collisions 1, collided := true } rest }
  | _, _ => l

/-- The window of a NORMAL frame after its collisions: 8 times 2 to the collision count, up to 64 (R21). -/
def windowAfter (collisions : Nat) : Nat := min (8 * 2 ^ collisions) 64

/-- The first entry that awaits the end of the break, and the queue without it. -/
def removeCollided : List TxEntry → Option (TxEntry × List TxEntry)
  | [] => none
  | x :: xs => if x.collided then some (x, xs) else (removeCollided xs).map fun p => (p.1, x :: p.2)

/-- The queue with the collided frame kept for another attempt. -/
def retryCollided : List TxEntry → List TxEntry
  | [] => []
  | x :: xs =>
    if x.collided then
      { x with collided := false, window := (if x.frame.urgent then x.window else windowAfter x.collisions) } :: xs
    else x :: retryCollided xs

/-- The access after a break or a hearing back: GAP-WAIT with a frame queued, IDLE without (R21, R23). -/
def Liu.waitOrIdle (l : Liu) : Liu := { l with access := (if l.txq = [] then .idle else .gapWait) }

/-- A held SPAN joins the queue as a frame posted at that moment (R15). -/
def Liu.admitHeld (l : Liu) : Liu :=
  match l.heldSpan with
  | some f => { l with txq := insertByClass (TxEntry.fresh .span f) l.txq, heldSpan := none }
  | none => l

/-- The station's own break ends (R21): the LIU afterwards, and the frame dropped after 8 collisions, if any. -/
def Liu.breakEnd (l : Liu) : Liu × Option TxEntry :=
  match removeCollided l.txq with
  | none => (l.waitOrIdle, none)
  | some (e, q) =>
    if 8 ≤ e.collisions then
      let l' := { l.countDrop with txq := q }
      ((if e.frame.isSpan then l'.admitHeld else l').waitOrIdle, some e)
    else ({ l with txq := retryCollided l.txq }.waitOrIdle, none)

/-- The head frame was sent to its last stop bit without a mismatch (R23). -/
def Liu.heardBack (l : Liu) : Liu :=
  match l.access, l.txq with
  | .sending, e :: rest =>
    let l' := { l with txq := rest, receiver := .hunt, access := .gapWait }
    ((if e.frame.isSpan then l'.admitHeld else l').waitOrIdle).enqueue { frame := e.frame, own := true }
  | _, _ => l

/-- The LIU emptied on entering OFFLINE: no frame queued, a transmission cut short, a break sent to its end (R59,
log 19). -/
def Liu.emptied (l : Liu) : Liu :=
  { l with txq := [], heldSpan := none, access := (if l.access = .breaking then .breaking else .idle) }

end Sys2Proof.Machine
end

