-- ==== Sys2Proof/Machine/Ops.lean ====
section
/-! DEFINITION. The operations shared by the blocks: entries of the request table and the owned list, the span the
station states, the reports of dropped frames, and posting. -/

namespace Sys2Proof.Machine

/-! ## Request table entries -/

/-- The entries with a tag changed by `f` (no two entries have the same tag, R77). -/
def RequestUnit.update (r : RequestUnit) (t : Tag) (f : Entry → Entry) : RequestUnit :=
  { r with table := r.table.map fun e => if e.call.tag = t then f e else e }

def Station.updateEntry (s : Station) (t : Tag) (f : Entry → Entry) : Station := { s with req := s.req.update t f }

/-- A new entry: HEARD, its offer window running, no offers (R79). -/
def Entry.new (c : Call) (arrival : Nat) : Entry :=
  { call := c, arrival := arrival, state := .heard, phase := .window, ownOffer := none, best := none, owner := none,
    hold := false, rival := false, estimate := none, reassert := none, noticed := false, raisedHere := false,
    prompt := none }

/-- An entry as it returns to HEARD: offers, owner, hold and rival mark cleared, no timer (R85, R86, R97). -/
def Entry.toHeard (e : Entry) : Entry :=
  { e with state := .heard, phase := .none, ownOffer := none, best := none, owner := none, hold := false,
           rival := false, estimate := none, reassert := none }

/-- An entry as it goes to PEER (R88, R89, R91). -/
def Entry.toPeer (o : Owner) (e : Entry) : Entry := { e.toHeard with state := .peer, owner := some o }

/-- The entry holds an outstanding own offer (R78). -/
def Entry.outstanding (e : Entry) : Bool := e.state == .bidding && e.ownOffer.isSome

/-- Offer capacity: 2 less the owned count and the outstanding own offers (R78). -/
def RequestUnit.capacity (r : RequestUnit) : Nat := 2 - (r.owned.length + (r.table.filter Entry.outstanding).length)

/-- A rescan point (R94); the rescan is made at the end of the event. -/
def Station.rescanPoint (s : Station) : Station := { s with req := { s.req with rescan := true } }

/-! ## The owned list and the request record (R92, R93) -/

/-- The first stage of a request (R133, R138). -/
def firstStage (c : Call) : Stage :=
  match c.kind with
  | .demount => .toDrive
  | _ => if (c.source.any fun p => p.window) then .loadWait else .toSource

/-- The request record of a request handed over (R133, R138). -/
def ReqRecord.new (c : Call) : ReqRecord :=
  { tag := c.tag, stage := firstStage c, waiting := none,
    dest := (match c.kind with | .demount => if (c.ret.any fun p => p.window) then .window else .ret | _ => .drive),
    outcome := (match c.kind with | .demount => .returned | _ => .mounted),
    pickDone := false, assisted := false, prompt := none }

/-- A DONE with a tag is in the DONE list (R142). -/
def Sequencer.doneWaiting (q : Sequencer) (t : Tag) : Bool := q.doneList.any fun d => d.done.tag == t

/-- A request becomes ACTIVE and is handed to the Carriage Sequencer (R92). One whose DONE already waits in the DONE
list stands at COMPLETING: abandoned under R147 (log 27), or claimed again after a drop that left its DONE there (R142; DESIGN CHOICE,
log 27). -/
def Station.handOver (s : Station) (t : Tag) : Station :=
  match s.req.find t with
  | none => s
  | some e =>
    let r := ReqRecord.new e.call
    let r' := if s.seq.doneWaiting t then { r with stage := .completing } else r
    { s with req := { s.req with active := some t, elapsed := 0 },
             seq := { s.seq with record := some r', moveRefused := false } }

/-- The next request to be ACTIVE: an OWNED entry of the owned list (R92). -/
def RequestUnit.nextOwned (r : RequestUnit) : Option Tag :=
  r.owned.find? fun t => (r.find t).any fun e => e.state == .owned

/-- An entry leaves the owned list, a fall in the owned count and a rescan point (R93, R94). When it was ACTIVE, the
NEXT request becomes ACTIVE (R92). -/
def Station.leaveOwned (s : Station) (t : Tag) : Station :=
  let s1 := { s with req := { s.req with owned := s.req.owned.filter fun u => u != t } }.rescanPoint
  if s.req.active = some t then
    let s2 := { s1 with req := { s1.req with active := none } }
    match s2.req.nextOwned with
    | some u => s2.handOver u
    | none => s2
  else s1

/-! ## The rest span (R105) -/

/-- Its kind: FIXED when HELD or FAULTED is set or the rest position lies outside the band, PARKED otherwise. -/
def Station.restKind (s : Station) (p : Nat) : SpanKind :=
  if s.heldCond || s.faulted || !s.cv.inBand s.k p then .fixed else .parked

/-- The span of the stretch from the rest position to itself. -/
def Station.restSpan (s : Station) (p : Nat) : OwnSpan :=
  { lo := s.cv.spanLo p, hi := s.cv.spanHi p, kind := s.restKind p, reassert := false }

/-- The own entry becomes the rest span again, where the rest position is known (R109, R111, R115, R121). -/
def Station.ownToRest (s : Station) : Station :=
  match s.span.rest with
  | some p => { s with span := { s.span with own := some (s.restSpan p) } }
  | none => s

/-! ## What a block does when its frame was dropped -/

/-- OFFER dropped (R81): the own offer is cleared; the entry stays in BIDDING if a timer runs or a best offer was
heard. -/
def Station.offerDropped (s : Station) (t : Tag) (cost : Nat) : Station :=
  s.updateEntry t fun e =>
    if e.state = .bidding ∧ (e.ownOffer.any fun o => o.cost == cost) then
      { e with ownOffer := none, state := if e.phase ≠ .none ∨ e.best.isSome then .bidding else .heard }
    else e

/-- TAKE dropped (R86): a TAKING entry returns to HEARD and leaves the owned list. A dropped reassert changes nothing
(R90). -/
def Station.takeDropped (s : Station) (t : Tag) (cost : Nat) : Station :=
  match s.req.find t with
  | some e => if e.state = .taking ∧ cost ≠ 0 then (s.updateEntry t Entry.toHeard).leaveOwned t else s
  | none => s

/-- Starts the re-post timer of the first DONE record with these fields that has none (R142). -/
def startRepost (d : Done) : List DoneRecord → List DoneRecord
  | [] => []
  | x :: xs => if x.done = d ∧ x.timer = none then { x with timer := some 100 } :: xs else x :: startRepost d xs

/-- DONE dropped (R142): posted again 1 s after the report. -/
def Station.doneDropped (s : Station) (d : Done) : Station :=
  { s with seq := { s.seq with doneList := startRepost d s.seq.doneList } }

/-- An own SPAN dropped (R106), and the move's MOVING SPAN dropped in ASKING (R111). -/
def Station.spanDropped (s : Station) (moving : Bool) : Station :=
  if s.span.reservation = .asking ∧ moving then
    let s1 := s.ownToRest
    { s1 with span := { s1.span with reservation := .waiting, waitTimer := some 100, firstFree := true } }
  else { s with span := { s.span with restateTimer := some 100 } }

/-- NUDGE dropped (R117): the nudge record of its peer is cleared. -/
def Station.nudgeDropped (s : Station) (addr : Nat) : Station :=
  { s with span := { s.span with nudges := s.span.nudges.filter fun n => n.addr != addr } }

/-- PROMPT dropped (R164): marked when it stated an entry that is SHOWN at that level. -/
def Station.promptDropped (s : Station) (num : Nat) (level : Option Level) : Station :=
  { s with prm := { s.prm with list := s.prm.list.map fun e =>
      if e.num = num ∧ e.shown = true ∧ some e.level = level then { e with drop := .dropped } else e } }

/-- The record of a number and reason whose frame was not reported dropped. -/
def ClearRecord.awaits (num : Nat) (reason : Option ClearReason) (x : ClearRecord) : Bool :=
  x.num == num && some x.reason == reason && x.drop == .none

/-- Marks the record of a dropped PROMPT-CLEAR. Of equal records each stands for a frame of its own, in order of posting, so that the
dropped frame's has as many after it as like frames were posted after the dropped one (R13, R165, log 58). -/
def markClear (num : Nat) (reason : Option ClearReason) (later : Nat) : List ClearRecord → List ClearRecord
  | [] => []
  | x :: xs =>
    if x.awaits num reason = true ∧ (xs.filter (ClearRecord.awaits num reason)).length = later then { x with drop := .dropped } :: xs
    else x :: markClear num reason later xs

/-- PROMPT-CLEAR dropped (R165), `later` like ones queued after it: its record is kept and marked. -/
def Station.clearDropped (s : Station) (num : Nat) (reason : Option ClearReason) (later : Nat) : Station :=
  { s with prm := { s.prm with clears := markClear num reason later s.prm.clears } }

/-- Two frames of a station are like ones, where a block keeps one record for both: NUDGEs to one station; OFFERs or TAKEs of one
tag, or PROMPT-CLEARs of one number and reason, which their first two bytes say (R33 to R37). -/
def Frame.like (f g : Frame) : Bool :=
  g.kind == f.kind && g.dst == f.dst && (f.kind == 0x32 || g.body.take 2 == f.body.take 2)

/-- The report of a drop to the poster, taken at once (R14, R21, log 22). It names the frame it concerns; `newer` are the frames of
its class still queued that were posted after it. An OFFER, TAKE or NUDGE that was posted again since is of no record any more (R81,
R86, R117, log 58). TALLY and STATUS are not posted again (R60, R188). -/
def Station.reportDrop (s : Station) (f : Frame) (newer : List Frame) : Station :=
  let later := (newer.filter f.like).length
  if f.kind = 0x21 then
    match f.body with
    | [c, t, h, l, _] => if later = 0 then s.offerDropped (Tag.ofBytes c t) (num16 h l) else s
    | _ => s
  else if f.kind = 0x22 then
    match f.body with
    | [c, t, h, l, _, _] => if later = 0 then s.takeDropped (Tag.ofBytes c t) (num16 h l) else s
    | _ => s
  else if f.kind = 0x23 then
    match readDone f.body with
    | some (.done d) => s.doneDropped d
    | _ => s
  else if f.kind = 0x31 then
    match f.body with
    | [_, k, _, _, _, _, _] => s.spanDropped (k == SpanKind.moving.code)
    | _ => s
  else if f.kind = 0x32 then (if later = 0 then s.nudgeDropped (addrOf f.dst) else s)
  else if f.kind = 0x41 then
    match f.body with
    | num :: _ :: level :: _ => s.promptDropped num.toNat (Level.ofCode level)
    | _ => s
  else if f.kind = 0x42 then
    match f.body with
    | [num, r] => s.clearDropped num.toNat (ClearReason.ofCode r) later
    | _ => s
  else s

/-- The LIU after an operation, and the report of the frame it dropped, if any, with the queued frames posted after that one. -/
def Station.settle (s : Station) (r : Liu × Option TxEntry) (newer : List Frame) : Station :=
  match r.2 with
  | none => { s with liu := r.1 }
  | some e => { s with liu := r.1 }.reportDrop e.frame newer

/-! ## Posting (R13 to R16) -/

/-- A block posts a message to a destination (R14, R26). What is dropped at a posting is the frame of its class posted last. -/
def Station.post (s : Station) (b : Block) (dst : Nat) (m : Msg) : Station :=
  s.settle (s.liu.post (TxEntry.fresh b (m.frame s.cv.address dst))) []

/-- The SPAN of the own entry (R35, R102): kind, ends and reassert flag of the entry, the fresh flag of R54. -/
def Station.spanMsg (s : Station) (o : OwnSpan) : Msg := .span s.k o.kind o.lo o.hi s.span.fresh o.reassert

/-- The own entry is posted and the restatement timer started again at 2 s (R106). Without an own entry there is
nothing to post. -/
def Station.postOwn (s : Station) : Station :=
  match s.span.own with
  | none => s
  | some o =>
    let s1 := { s with span := { s.span with restateTimer := some 200 } }
    s1.settle (s1.liu.postSpan ((s1.spanMsg o).frame s1.cv.address 63)) []

/-- The Span Unit withdraws its SPAN (R16); the answer is true for "too late". -/
def Station.withdrawSpan (s : Station) : Station × Bool := ({ s with liu := s.liu.withdrawSpan.1 }, s.liu.withdrawSpan.2)

/-- One more on the late replies counter (R24, R169). -/
def Station.countLateReply (s : Station) : Station :=
  { s with liu := { s.liu with counters := { s.liu.counters with lateReplies := inc16 s.liu.counters.lateReplies } } }

/-- One more on the calls dropped counter (R24, R80). -/
def Station.countCallDropped (s : Station) : Station :=
  { s with liu := { s.liu with counters := { s.liu.counters with callsDropped := inc16 s.liu.counters.callsDropped } } }

end Sys2Proof.Machine
end

