-- ==== Sys2Proof/Machine/Prompts.lean ====
section
/-! DEFINITION. The Prompt Unit's shared operations and the Accounting Unit's prompt records (R152 to R172, R189). -/

namespace Sys2Proof.Machine

/-! ## Kinds (R157) -/

/-- The two groups of places (R152). -/
def PromptKind.requestBound : PromptKind → Bool
  | .loadWindow | .cellEmpty | .serialMismatch | .ringNeeded | .slotOccupied => true
  | _ => false

def PromptKind.level : PromptKind → Level
  | .carriageFault | .doorOpen | .handLoaded => .urgent
  | .requestWaiting | .cleanDue | .accountsFull | .storeLost => .notice
  | _ => .action

def PromptKind.unit : PromptKind → Block
  | .railBlocked | .stationSilent => .span
  | .requestWaiting => .request
  | .cleanDue | .accountsFull | .storeLost => .accounting
  | _ => .sequencer

/-- The answers a REPLY may give a kind. -/
def PromptKind.allows (k : PromptKind) (a : Answer) : Bool :=
  match k with
  | .loadWindow | .ringNeeded => a == .cont || a == .skip
  | .cellEmpty => a == .retry || a == .skip
  | .serialMismatch => a == .accept || a == .returnReel || a == .skip
  | .slotOccupied => a == .retry || a == .window
  | .carriageFault => a == .retry || a == .release
  | .stationSilent => a == .cont || a == .release
  | _ => a == .cont

/-- A prompt without optional fields. -/
def PromptFields.none : PromptFields := ⟨.none, .none, .none, .none, .none⟩

/-! ## The list -/

def Station.updatePrompt (s : Station) (num : Nat) (f : PromptEntry → PromptEntry) : Station :=
  { s with prm := { s.prm with list := s.prm.list.map fun e => if e.num = num then f e else e } }

def PromptUnit.find (p : PromptUnit) (num : Nat) : Option PromptEntry := p.list.find? fun e => e.num == num

/-- The SHOWN entry (at most one, R152). -/
def PromptUnit.shownEntry (p : PromptUnit) : Option PromptEntry := p.list.find? fun e => e.shown

/-- BEACON is active while an entry of level URGENT is in the list (R172). -/
def Station.driveBeacon (s : Station) : Station :=
  { s with prm := { s.prm with beacon := s.prm.list.any fun e => e.level == .urgent } }

/-- The message that states an entry at its present level (R164). -/
def PromptEntry.msg (e : PromptEntry) : Msg := .prompt { num := e.num, kind := e.kind, level := e.level, fields := e.fields }

/-- A PROMPT that states the entry of a number is posted; its heard mark is clear until the echo, and a drop reported
before no longer asks for another (R158, R162, R163, R164). At a posting after a drop too the heard mark and the re-send second
are cleared (DESIGN CHOICE, log 54). -/
def Station.statePrompt (s : Station) (num : Nat) : Station :=
  let s1 := s.updatePrompt num fun e => { e with heard := false, resend := none, drop := .none }
  match s1.prm.find num with
  | some e => s1.post .prompt 63 e.msg
  | none => s1

/-- An entry becomes SHOWN and its PROMPT is posted (R158, R159). -/
def Station.showPrompt (s : Station) (num : Nat) : Station :=
  (s.updatePrompt num fun e => { e with shown := true }).statePrompt num

/-- The better choice to be SHOWN: the higher level, the earlier of equals (R158). -/
def betterShown (best e : PromptEntry) : PromptEntry := if best.level.rank < e.level.rank then e else best

/-- With no entry SHOWN, the oldest entry of the highest level is made SHOWN (R158). -/
def Station.chooseShown (s : Station) : Station :=
  match s.prm.shownEntry, s.prm.list with
  | none, e :: es => s.showPrompt (es.foldl betterShown e).num
  | _, _ => s

/-- A record joins the clear list, which holds 8; a full list loses its oldest (R165). -/
def pushClear (r : ClearRecord) (l : List ClearRecord) : List ClearRecord := (if l.length ≤ 7 then l else l.drop 1) ++ [r]

/-- A PROMPT-CLEAR is posted and kept in the clear list (R165). -/
def Station.postClear (s : Station) (num : Nat) (reason : ClearReason) : Station :=
  { s with prm := { s.prm with clears := pushClear ⟨num, reason, .none⟩ s.prm.clears } }.post .prompt 63 (.clear num reason)

/-- A strictly higher entry preempts the SHOWN one (R159). -/
def Station.preempt (s : Station) (shownNum num : Nat) : Station :=
  ((s.updatePrompt shownNum fun e => { e with shown := false, heard := false, resend := none, drop := .none }).postClear
    shownNum .preempted).showPrompt num

/-- A new or escalated entry of a level: it preempts a SHOWN entry of a strictly lower level, or is chosen when none is
SHOWN (R158, R159). -/
def Station.offerShown (s : Station) (num : Nat) (level : Level) : Station :=
  match s.prm.shownEntry with
  | none => s.chooseShown
  | some e => if e.level.rank < level.rank then s.preempt e.num num else s

/-- The entry of a number leaves the list: when SHOWN, its PROMPT-CLEAR, the removal, a new choice; then BEACON (R160). -/
def Station.leavePrompt (s : Station) (num : Nat) (reason : ClearReason) : Station :=
  match s.prm.find num with
  | none => s
  | some e =>
    let s1 := if e.shown then s.postClear num reason else s
    let s2 := { s1 with prm := { s1.prm with list := s1.prm.list.filter fun x => x.num != num } }
    (if e.shown then s2.chooseShown else s2).driveBeacon

/-- A raising unit withdraws its prompt by number (R170). -/
def Station.withdrawPrompt (s : Station) (unit : Block) (num : Nat) : Station :=
  match s.prm.find num with
  | some e => if e.kind.unit = unit then s.leavePrompt num .withdrawn else s
  | none => s

/-! ## The Accounting Unit's records (R189) -/

/-- A displaced record is raised once more, a second displacement gives it up (R189). -/
def AccRecord.onDisplaced (r : AccRecord) : AccRecord :=
  if r.displaced then { r with status := .none, displaced := false } else { r with status := .wanted, displaced := true }

/-- Answered, expired, or its cause gone (R189). -/
def AccRecord.toNone (r : AccRecord) : AccRecord := { r with status := .none, displaced := false }

/-- The records with the one raised under a number changed. -/
def Station.updateAcc (s : Station) (num : Nat) (f : AccRecord → AccRecord) : Station :=
  { s with acc := s.acc.map fun r => if r.status = .raised num then f r else r }

/-- The Request Unit's record of a prompt number follows the outcome (R171); nothing else of the entry changes (R100). -/
def Station.forgetWaiting (s : Station) (num : Nat) : Station :=
  { s with req := { s.req with table := s.req.table.map fun e => if e.prompt = some num then { e with prompt := none } else e } }

/-- A NOTICE entry was displaced: its raising unit is told (R156, R171). -/
def Station.toldDisplaced (s : Station) (e : PromptEntry) : Station :=
  match e.kind.unit with
  | .accounting => s.updateAcc e.num AccRecord.onDisplaced
  | _ => s.forgetWaiting e.num

/-- A NOTICE entry expired: its raising unit is told (R161, R171). -/
def Station.toldExpired (s : Station) (e : PromptEntry) : Station :=
  match e.kind.unit with
  | .accounting => s.updateAcc e.num AccRecord.toNone
  | _ => s.forgetWaiting e.num

/-! ## Raising (R154 to R156) -/

/-- The following prompt number, 255 followed by 0 (R154). -/
def nextNumber (n : Nat) : Nat := (n + 1) % 256

/-- The first number from n on that no entry holds; at most 8 entries hold one (R154). -/
def freeNumber (list : List PromptEntry) : Nat → Nat → Nat
  | 0, n => n
  | fuel + 1, n => if list.any fun e => e.num == n then freeNumber list fuel (nextNumber n) else n

/-- The entry of a raise (R155). -/
def PromptEntry.new (num : Nat) (k : PromptKind) (f : PromptFields) (now : Nat) : PromptEntry :=
  { num := num, kind := k, level := k.level, fields := f, raised := now, shown := false, heard := false, resend := none,
    drop := .none }

/-- An accepted raise: its number, its entry at the end of raise order, the choice of R158 or R159, BEACON (R154,
R155). The number is returned. -/
def Station.acceptRaise (s : Station) (k : PromptKind) (f : PromptFields) : Station × Nat :=
  let num := freeNumber s.prm.list 9 s.prm.nextNum
  let s1 := { s with prm := { s.prm with
    list := s.prm.list ++ [PromptEntry.new num k f s.now], nextNum := nextNumber num,
    clears := s.prm.clears.filter fun c => c.num != num } }
  ((s1.offerShown num k.level).driveBeacon, num)

/-- The entries in general places (R152). -/
def PromptUnit.general (p : PromptUnit) : List PromptEntry := p.list.filter fun e => !e.kind.requestBound

/-- A raise (R155, R156): accepted with its number, or refused. -/
def Station.raise (s : Station) (k : PromptKind) (f : PromptFields) : Station × Option Nat :=
  if k.requestBound || decide (s.prm.general.length ≤ 5) then
    let r := s.acceptRaise k f
    (r.1, some r.2)
  else
    match s.prm.general.find? fun e => e.level == .notice with
    | some v =>
      let r := ((s.leavePrompt v.num .withdrawn).toldDisplaced v).acceptRaise k f
      (r.1, some r.2)
    | none => (s, none)

/-! ## Accounting prompts (R189) -/

/-- CLEAN-DUE carries its drive number, the other two no field (R189). -/
def Subject.kind : Subject → PromptKind
  | .cleanDue _ => .cleanDue
  | .accountsFull => .accountsFull
  | .storeLost => .storeLost

def Subject.fields : Subject → PromptFields
  | .cleanDue d => { PromptFields.none with drive := some d }
  | _ => PromptFields.none

def Station.accStatus (s : Station) (x : Subject) : AccStatus :=
  match s.acc.find? fun r => r.subject == x with
  | some r => r.status
  | none => .none

def Station.setAcc (s : Station) (x : Subject) (f : AccRecord → AccRecord) : Station :=
  { s with acc := s.acc.map fun r => if r.subject = x then f r else r }

/-- The raise of a subject: RAISED if accepted, WANTED if refused (R189). -/
def Station.raiseSubject (s : Station) (x : Subject) : Station :=
  match s.raise x.kind x.fields with
  | (s1, some num) => s1.setAcc x fun r => { r with status := .raised num }
  | (s1, none) => s1.setAcc x fun r => { r with status := .wanted }

/-- A prompt is called for: raised at once when its record is NONE (R189). -/
def Station.callFor (s : Station) (x : Subject) : Station := if s.accStatus x = .none then s.raiseSubject x else s

/-- Its cause is gone: NONE, mark cleared, a RAISED prompt withdrawn (R189). -/
def Station.causeGone (s : Station) (x : Subject) : Station :=
  match s.accStatus x with
  | .raised num => (s.setAcc x AccRecord.toNone).withdrawPrompt .accounting num
  | _ => s.setAcc x AccRecord.toNone

/-- The subjects whose records are WANTED, which an advance in READY raises again (R189). -/
def Station.wantedRaises (s : Station) : List Subject :=
  if s.ctl.mode = .ready then (s.acc.filter fun r => r.status == .wanted).map (·.subject) else []

/-- Subjects are raised again (R189), in their order. -/
def Station.raiseWanted (s : Station) (l : List Subject) : Station := l.foldl Station.raiseSubject s

/-! ## Time (R161 to R165) -/

/-- The entry's expiry is due (R161). -/
def PromptEntry.expiryDue (now : Nat) (e : PromptEntry) : Bool := e.level == .notice && decide (e.raised + 30 ≤ now)

/-- The entry's escalation is due (R162). -/
def PromptEntry.escalationDue (now : Nat) (e : PromptEntry) : Bool := e.level == .action && decide (e.raised + 60 ≤ now)

/-- The entry's re-send is due (R163). -/
def PromptEntry.resendDue (now : Nat) (e : PromptEntry) : Bool :=
  e.shown && e.level == .urgent && e.resend.any fun r => decide (r ≤ now)

def Station.expiriesDue (s : Station) : List PromptEntry := s.prm.list.filter (PromptEntry.expiryDue s.now)

def Station.escalationsDue (s : Station) : List PromptEntry := s.prm.list.filter (PromptEntry.escalationDue s.now)

def Station.resendsDue (s : Station) : List PromptEntry := s.prm.list.filter (PromptEntry.resendDue s.now)

/-- One entry expires: it leaves the list and its raising unit is told (R161). -/
def Station.expirePrompt (s : Station) (e : PromptEntry) : Station := (s.leavePrompt e.num .expired).toldExpired e

/-- One entry escalates (R162): URGENT; stated again when SHOWN, tested against the SHOWN entry when QUEUED. -/
def Station.escalatePrompt (s : Station) (e : PromptEntry) : Station :=
  match s.prm.find e.num with
  | none => s
  | some x =>
    let s1 := s.updatePrompt e.num fun y => { y with level := .urgent }
    (if x.shown then s1.statePrompt e.num else s1.offerShown e.num .urgent).driveBeacon

/-- At an advance the drop reports received before it become due (R164, R165). -/
def DropMark.advance : DropMark → DropMark
  | .none => .none
  | _ => .due

def Station.advanceDrops (s : Station) : Station :=
  { s with prm := { s.prm with list := s.prm.list.map fun e => { e with drop := e.drop.advance },
                               clears := s.prm.clears.map fun c => { c with drop := c.drop.advance } } }

/-- A due PROMPT-CLEAR still says something true (R165). -/
def PromptUnit.clearStillTrue (p : PromptUnit) (c : ClearRecord) : Bool :=
  match c.reason with
  | .preempted => (p.find c.num).any fun e => !e.shown
  | _ => (p.find c.num).isNone

/-- One due record of the clear list: posted again when still true, removed otherwise (R165). One posted again takes its place anew in
the order of posting (log 58). -/
def Station.repostClear (s : Station) (c : ClearRecord) : Station :=
  if s.prm.clearStillTrue c then
    { s with prm := { s.prm with clears := s.prm.clears.erase c ++ [{ c with drop := .none }] } }.post .prompt 63 (.clear c.num c.reason)
  else { s with prm := { s.prm with clears := s.prm.clears.erase c } }

/-- The postings after drops, last of the Prompt Unit's work at an advance (R161, R164, R165): made once no expiry,
escalation or re-send is due any more (log 10). The PROMPT is posted before the PROMPT-CLEARs (DESIGN
CHOICE, log 68), and they in the order of the clear list (DESIGN CHOICE, log 66). -/
def Station.repostDropped (s : Station) : Station :=
  if s.expiriesDue.isEmpty && s.escalationsDue.isEmpty && s.resendsDue.isEmpty then
    let s1 := (s.prm.list.filter fun e => e.shown && e.drop == .due).foldl (fun s e => s.statePrompt e.num) s
    (s1.prm.clears.filter fun c => c.drop == .due).foldl Station.repostClear s1
  else s

/-! ## Own echoes (R166) -/

/-- The echo of a PROMPT (R166, R163). -/
def Station.promptEcho (s : Station) (num : Nat) (level : Level) : Station :=
  s.updatePrompt num fun e =>
    if e.shown = true ∧ e.level = level then
      { e with heard := true, resend := if level = .urgent then some (s.now + 20) else e.resend }
    else e

/-- Removes the first record with a number and reason whose frame was not reported dropped: the echo is of a frame that was not
(R165). -/
def removeClear (num : Nat) (reason : ClearReason) : List ClearRecord → List ClearRecord
  | [] => []
  | x :: xs => if x.num = num ∧ x.reason = reason ∧ x.drop = .none then xs else x :: removeClear num reason xs

/-- The echo of a PROMPT-CLEAR removes its record (R165, R166). -/
def Station.clearEcho (s : Station) (num : Nat) (reason : ClearReason) : Station :=
  { s with prm := { s.prm with clears := removeClear num reason s.prm.clears } }

end Sys2Proof.Machine
end

