-- ==== Sys2Proof/Machine/Spans.lean ====
section
/-! DEFINITION. The Span Unit's shared operations: the own span, reservation, waiting, nudges and silent peers
(R102 to R124), and STOP, which a lost grant and the door both have the Sequencer send (R128). -/

namespace Sys2Proof.Machine

/-! ## STOP (R128) -/

/-- The cause added to those recorded. -/
def StopCauses.union (a b : StopCauses) : StopCauses := ⟨a.door || b.door, a.lost || b.lost, a.dropped || b.dropped⟩

/-- A cause of a STOP arises (R128): with a command in flight it is recorded, and STOP is issued when none is
outstanding; its timer is 100 ticks (R127). -/
def Station.sendStop (s : Station) (c : StopCauses) : Station :=
  match s.seq.cmd with
  | none => s
  | some f =>
    { s with seq := { s.seq with
      cmd := some { f with causes := some ((f.causes.getD ⟨false, false, false⟩).union c) },
      stop := (match s.seq.stop with | some x => some x | none => some ⟨100, f.cmd, f.purpose⟩) } }

/-- The command in flight is a TRAVEL. -/
def Sequencer.travelling (q : Sequencer) : Bool :=
  match q.cmd with
  | some ⟨.travel _, _, _, _, _⟩ => true
  | _ => false

/-! ## The own entry (R105) -/

/-- The own entry is set and posted. -/
def Station.stateOwn (s : Station) (o : OwnSpan) : Station := { s with span := { s.span with own := some o } }.postOwn

/-- The rest span is stated when it has new ends or a new kind (R105). -/
def Station.updateRest (s : Station) : Station :=
  match s.span.rest with
  | none => s
  | some p =>
    let o := s.restSpan p
    match s.span.own with
    | some x => if x.lo = o.lo ∧ x.hi = o.hi ∧ x.kind = o.kind then s else s.stateOwn o
    | none => s.stateOwn o

/-! ## The RAIL-BLOCKED prompt (R118) -/

/-- RAIL-BLOCKED is withdrawn and its latch cleared (R107, R110, R115, R118, R121). -/
def Station.clearRailBlocked (s : Station) : Station :=
  let s1 := { s with span := { s.span with railLatch := false, railPrompt := none } }
  match s.span.railPrompt with
  | some num => s1.withdrawPrompt .span num
  | none => s1

/-- RAIL-BLOCKED is raised at 3 retries with the latch clear; a refused raise leaves the latch clear (R118). -/
def Station.raiseRailBlocked (s : Station) : Station :=
  match s.span.move with
  | none => s
  | some m =>
    if s.span.retries = 3 ∧ s.span.railLatch = false then
      match s.raise .railBlocked { PromptFields.none with pos := some m.target } with
      | (s1, some num) => { s1 with span := { s1.span with railLatch := true, railPrompt := some num } }
      | (s1, none) => s1
    else s

/-! ## Evaluation (R108, R116, R117) -/

/-- The wanted span of a move from a rest position to a target (R65). -/
def Station.wanted (s : Station) (c target : Nat) : OwnSpan :=
  { lo := s.cv.spanLo (min c target), hi := s.cv.spanHi (max c target), kind := .moving, reassert := false }

/-- The peer entries that conflict with a span (R75). -/
def Station.conflicts (s : Station) (o : OwnSpan) : List PeerSpan :=
  s.span.peers.filter fun p => s.cv.conflict o.lo o.hi p.lo p.hi

/-- No entry conflicts: the wanted span is stated, the reservation is ASKING, the WAITING timer stops (R108, R116). The
reservation is ASKING before the SPAN is posted, so that a drop at the posting finds it so (R111). -/
def Station.ask (s : Station) (w : OwnSpan) : Station :=
  { s with span := { s.span with reservation := .asking, waitTimer := none, firstFree := false } }.stateOwn w

/-- A conflicting PARKED peer, not stale, is nudged when none was posted to it in the last 5 s (R117). -/
def Station.nudgePeer (s : Station) (w : OwnSpan) (p : PeerSpan) : Station :=
  if p.kind = .parked ∧ p.stale = false ∧ ¬ (s.span.nudges.any fun n => n.addr == p.addr) then
    let s1 := { s with span := { s.span with nudges := s.span.nudges ++ [NudgeRecord.mk p.addr 500] } }
    if s.k < p.index then s1.post .span p.addr (.nudge false (min (w.hi + s.cv.G) 65535) s.k)
    else s1.post .span p.addr (.nudge true (w.lo - s.cv.G) s.k)
  else s

/-- A move in WAITING is evaluated, where the rest position is known (R116). Several peers are nudged in order of index, the lowest
first (DESIGN CHOICE, log 49). -/
def Station.evaluate (s : Station) : Station :=
  match s.span.reservation, s.span.rest, s.span.move with
  | .waiting, some c, some m =>
    let w := s.wanted c m.target
    let cs := s.conflicts w
    if cs.isEmpty then s.ask w else cs.foldl (fun s p => s.nudgePeer w p) s
  | _, _, _ => s

/-- A move is made from a rest position: ASKING when no entry conflicts, else WAITING at 5 s, evaluated at once (R108,
R122). -/
def Station.beginMove (s : Station) (c target : Nat) (purpose : Purpose) : Station :=
  let s1 := { s with span := { s.span with move := some ⟨target, purpose⟩, retries := 0 } }
  let w := s1.wanted c target
  if (s1.conflicts w).isEmpty then s1.ask w
  else { s1 with span := { s1.span with reservation := .waiting, waitTimer := some 500, firstFree := false } }.evaluate

/-- A nudge is being served. -/
def SpanUnit.serving (u : SpanUnit) : Bool := u.move.any fun m => m.purpose == .nudge

/-- A nudge is held or being served (R108). -/
def SpanUnit.nudgeBusy (u : SpanUnit) : Bool := !u.held.isEmpty || u.serving

/-- Answers to a move request (R108). -/
inductive MoveAnswer where
  | taken | nudgeFirst | refused
  deriving DecidableEq, Repr

/-- The Sequencer asks a move (R108). -/
def Station.requestMove (s : Station) (target : Nat) (purpose : Purpose) : Station × MoveAnswer :=
  if s.span.nudgeBusy then (s, .nudgeFirst)
  else match s.span.rest with
    | none => (s, .refused)
    | some c =>
      if s.fit && s.span.reservation == .parked && s.cv.inBand s.k target then (s.beginMove c target purpose, .taken)
      else (s, .refused)

/-! ## Ends of a move -/

/-- The reservation returns to PARKED with no move in hand and the retry count at 0. -/
def Station.parkReservation (s : Station) : Station :=
  { s with span := { s.span with reservation := .parked, move := none, retries := 0, waitTimer := none, firstFree := false } }

/-- A move that goes on for no request (R115, R143, log 62). -/
def Move.abandoned (m : Move) : Move := { m with purpose := .dropped }

/-- The Sequencer gives up its move (R115). GRANTED takes no give-up: the move goes on for no request, to its TRAVEL's completion or
to the loss of the grant. -/
def Station.giveUpMove (s : Station) : Station :=
  match s.span.reservation with
  | .granted => { s with span := { s.span with move := s.span.move.map Move.abandoned } }
  | .waiting => s.parkReservation.clearRailBlocked
  | .asking =>
    let s1 := s.withdrawSpan.1.ownToRest.parkReservation
    s1.postOwn.clearRailBlocked
  | _ => s

/-- The Sequencer's own move is dropped for a nudge (R121). -/
def Station.giveWay (s : Station) : Station :=
  match s.span.reservation with
  | .waiting => s.parkReservation.clearRailBlocked
  | .asking => s.withdrawSpan.1.ownToRest.parkReservation.clearRailBlocked
  | _ => s

/-- The granted TRAVEL completed OK (R112): the target is the rest position, the own entry PARKED and posted, the move
done. So also for a TRAVEL that was done before its STOP reached the carriage (R114). -/
def Station.parkAt (s : Station) (p : Nat) : Station :=
  let s1 := { s with span := { s.span with rest := some p } }.parkReservation.clearRailBlocked
  s1.stateOwn { lo := s.cv.spanLo p, hi := s.cv.spanHi p, kind := .parked, reassert := false }

/-- The granted TRAVEL was stopped by the Sequencer on its own (R112): the own entry is FIXED over the granted span. -/
def Station.stoppedOnOwn (s : Station) : Station :=
  let s1 := { s with span := { s.span with rest := none } }.parkReservation
  match s.span.own with
  | some o => s1.stateOwn { o with kind := .fixed, reassert := false }
  | none => s1

/-- The FIXED own entry of R107: the granted span's ends when the grant ended here, else the rest span's, and the ends it
had where the rest position is unknown (R105). -/
def Station.heldOwn (s : Station) : Option OwnSpan :=
  match s.span.reservation, s.span.rest with
  | .granted, _ => s.span.own.map fun o => { o with kind := .fixed, reassert := false }
  | _, some p => some { lo := s.cv.spanLo p, hi := s.cv.spanHi p, kind := .fixed, reassert := false }
  | _, none => s.span.own.map fun o => { o with kind := .fixed, reassert := false }

/-- HELD or FAULTED becomes set (R107). -/
def Station.holdSpan (s : Station) : Station :=
  let own := s.heldOwn
  let s1 := if s.span.reservation = .waiting ∨ s.span.reservation = .asking then s.withdrawSpan.1 else s
  let s2 := { s1 with span := { s1.span with
    held := [], own := own, rest := if s.span.reservation = Reservation.granted then none else s.span.rest } }
  s2.parkReservation.postOwn.clearRailBlocked

/-- HELD or FAULTED was cleared: when it was the last of the two, the rest span is stated where the rest position is
known, and the moment is a rescan point (R94, R107). -/
def Station.conditionCleared (s : Station) : Station :=
  if s.heldCond || s.faulted then s else s.updateRest.rescanPoint

/-- The Sequencer reports a position (R105, R116). In ASKING a changed rest position gives the move a new wanted span,
which is stated (section 6.3, log 24); in GRANTED the rest position alone changes (DESIGN CHOICE, log 24). -/
def Station.reportPosition (s : Station) (p : Nat) : Station :=
  let s1 := { s with span := { s.span with rest := some p } }
  match s.span.reservation, s.span.move with
  | .parked, _ => s1.updateRest
  | .waiting, _ => s1.updateRest.evaluate
  | .asking, some m => if s.span.rest = some p then s1 else s1.stateOwn (s1.wanted p m.target)
  | _, _ => s1

/-! ## Own SPAN heard back (R54, R110) -/

/-- The own SPAN heard back clears the fresh mark it carries (R54), grants, or is a stray MOVING echo (R110). -/
def Station.spanEcho (s : Station) (kind : SpanKind) (lo hi : Nat) (fresh : Bool) : Station :=
  let s1 := if fresh then { s with span := { s.span with fresh := false } } else s
  match s1.span.own with
  | none => s1
  | some o =>
    if kind = .moving then
      let same := decide (o.lo = lo ∧ o.hi = hi)
      match s1.span.reservation with
      | .asking =>
        if same then { s1 with span := { s1.span with reservation := .granted, retries := 0 } }.clearRailBlocked
        else s1.postOwn
      | .granted => if same then s1 else s1.postOwn
      | _ => s1.postOwn
    else s1

/-! ## Peer SPANs (R103, R109, R113, R114) -/

/-- The peers in order of order index, with one entry put in its place (R102). -/
def insertPeer (p : PeerSpan) : List PeerSpan → List PeerSpan
  | [] => [p]
  | x :: xs => if p.index ≤ x.index then p :: x :: xs else x :: insertPeer p xs

/-- The entry of a peer's SPAN is made or replaced; another entry of the same address is removed (R103). -/
def Station.enterPeer (s : Station) (p : PeerSpan) : Station :=
  { s with span := { s.span with
    peers := insertPeer p (s.span.peers.filter fun x => x.index != p.index && x.addr != p.addr) } }

/-- A SPAN heard from a peer clears its silent-peer record and withdraws this station's prompt for it (R124). -/
def Station.peerHeard (s : Station) (addr : Nat) : Station :=
  let s1 := { s with span := { s.span with silent := s.span.silent.filter fun r => r.addr != addr } }
  match s.span.silent.find? fun r => r.addr == addr with
  | some r =>
    (match r.prompt with
     | some num => s1.withdrawPrompt .span num
     | none => s1)
  | none => s1

/-- A conflicting SPAN heard in ASKING came first: this station gives way (R109). -/
def Station.loseAsking (s : Station) : Station :=
  let w := s.withdrawSpan
  let s1 := w.1.ownToRest
  let s2 := { s1 with span := { s1.span with reservation := .waiting, waitTimer := some 500, firstFree := false } }
  (if w.2 then s2.postOwn else s2).evaluate

/-- The move in hand is of a request dropped in GRANTED (R143, log 62). -/
def SpanUnit.movesForNone (u : SpanUnit) : Bool := u.move.any fun m => m.purpose == .dropped

/-- A conflicting reassert heard in GRANTED that this station loses to (R114). A move whose request was dropped meanwhile is given up
with its grant (R115, R143, log 62). -/
def Station.loseGrant (s : Station) : Station :=
  let s1 := if s.seq.travelling then s.sendStop ⟨false, true, false⟩ else s
  let s2 := { s1 with span := { s1.span with
    reservation := .waiting, waitTimer := some 500, firstFree := false, rest := none } }
  let s3 := match s.span.own with
    | some o => s2.stateOwn { o with kind := .fixed, reassert := false }
    | none => s2
  if s.span.movesForNone then s3.giveUpMove else s3

/-- A peer SPAN that conflicts with the granted own entry (R113, R114). -/
def Station.challenged (s : Station) (o : OwnSpan) (index : Nat) (reassert : Bool) : Station :=
  if reassert then (if o.reassert ∧ s.k < index then s else s.loseGrant)
  else s.stateOwn { o with reassert := true }

/-- The reservation rule of the state the Span Unit is in takes a peer's SPAN (R103). -/
def Station.reserveAgainst (s : Station) (index lo hi : Nat) (reassert : Bool) : Station :=
  match s.span.reservation, s.span.own with
  | .asking, some o => if s.cv.conflict o.lo o.hi lo hi then s.loseAsking else s
  | .granted, some o => if s.cv.conflict o.lo o.hi lo hi then s.challenged o index reassert else s
  | .waiting, _ => s.evaluate
  | _, _ => s

/-- A SPAN heard from a peer, of an order index other than the station's own (R103). -/
def Station.peerSpan (s : Station) (addr index : Nat) (kind : SpanKind) (lo hi : Nat) (reassert : Bool) : Station :=
  (((s.enterPeer ⟨index, addr, lo, hi, kind, s.now, false⟩).peerHeard addr).reserveAgainst index lo hi reassert)

/-! ## Nudges (R119 to R122) -/

/-- The new centre of a nudge, held to the band (R119). -/
def Station.nudgeCentre (s : Station) (east : Bool) (boundary : Nat) : Nat :=
  s.cv.nearest s.k (if east then boundary + s.cv.H else boundary - s.cv.H)

/-- A rest position at or past the new centre: the nudge is already served (R119). -/
def alreadyServed (east : Bool) (rest newCentre : Nat) : Bool :=
  if east then decide (newCentre ≤ rest) else decide (rest ≤ newCentre)

/-- A nudge is held in its direction's place, taken now (R120). -/
def holdNudge (n : HeldNudge) (held : List HeldNudge) : List HeldNudge := (held.filter fun x => x.east != n.east) ++ [n]

/-- The carriage has no command in flight and no STOP outstanding. -/
def Sequencer.idle (q : Sequencer) : Bool := q.cmd.isNone && q.stop.isNone

/-- The held nudges are served, the earlier-taken first; one already served is not moved for (R120, R122), and the own entry is not
posted for it (DESIGN CHOICE, log 65). -/
def Station.serveNudges (s : Station) (c : Nat) : List HeldNudge → Station
  | [] => { s with span := { s.span with held := [] } }
  | n :: rest =>
    let t := s.nudgeCentre n.east n.boundary
    if alreadyServed n.east c t then s.serveNudges c rest
    else
      let s1 := { s with span := { s.span with held := rest } }
      (if s1.span.reservation = .parked then s1 else s1.giveWay).beginMove c t .nudge

/-- The Span Unit takes the carriage for its held nudges, where it may make a move (R108, R120). -/
def Station.serveHeld (s : Station) : Station :=
  match s.span.rest with
  | some c =>
    if s.seq.idle && s.fit && !s.span.serving && !s.span.held.isEmpty && s.span.reservation != .granted then
      s.serveNudges c s.span.held
    else s
  | none => s

/-- A NUDGE taken (R119, R120, R121). -/
def Station.takeNudge (s : Station) (west : Bool) (boundary requester : Nat) : Station :=
  let east := !west
  if s.heldCond || s.faulted || (if east then decide (s.k ≤ requester) else decide (requester ≤ s.k)) then s
  else
    let t := s.nudgeCentre east boundary
    match s.span.rest with
    | none => { s with span := { s.span with held := holdNudge ⟨east, boundary, requester⟩ s.span.held } }
    | some c =>
      if alreadyServed east c t then s.postOwn
      else { s with span := { s.span with held := holdNudge ⟨east, boundary, requester⟩ s.span.held } }.serveHeld

/-! ## The WAITING timer (R116, R118) -/

/-- The WAITING timer expires: the retry count rises unless the expiry is the first after R111, RAIL-BLOCKED is raised where it
is due, a raise refused before included, the timer is restarted and the move evaluated last (R116, R118; that the evaluation comes
last is DESIGN CHOICE, log 64). -/
def Station.waitExpired (s : Station) : Station :=
  let s1 := if s.span.firstFree then s else { s with span := { s.span with retries := min (s.span.retries + 1) 3 } }
  let s2 := s1.raiseRailBlocked
  { s2 with span := { s2.span with waitTimer := some 500, firstFree := false } }.evaluate

/-- RAIL-BLOCKED answered CONTINUE (R118). The timer is started again as one whose expiry counts, in the wait of R111 too (DESIGN
CHOICE, log 51). -/
def Station.railAnswered (s : Station) : Station :=
  let s1 := { s with span := { s.span with railLatch := false, railPrompt := none, retries := 0 } }
  if s.span.reservation = .waiting then
    { s1 with span := { s1.span with waitTimer := some 500, firstFree := false } }.evaluate
  else s1

/-! ## Silent peers (R104, R123) -/

/-- The silent-peer record of an address changed, made when there is none. -/
def updateSilent (addr : Nat) (f : SilentPeer → SilentPeer) : List SilentPeer → List SilentPeer
  | [] => [f ⟨addr, none, false, false, none⟩]
  | r :: rs => if r.addr = addr then f r :: rs else r :: updateSilent addr f rs

/-- A peer is to be marked stale at this advance (R104). -/
def PeerSpan.staleDue (now : Nat) (p : PeerSpan) : Bool := !p.stale && decide (p.lastHeard + 6 ≤ now)

/-- Every peer not heard for 6 s is marked stale and its due second set (R104, R123). -/
def Station.markStale (s : Station) : Station :=
  let now := s.now
  let due := s.span.peers.filter (PeerSpan.staleDue now)
  { s with span := { s.span with
    peers := s.span.peers.map fun p => if p.staleDue now then { p with stale := true } else p,
    silent := due.foldl (fun l p => updateSilent p.addr (fun r => { r with due := some (now + s.k) }) l) s.span.silent } }

/-- STATION-SILENT is due for a record: due second reached, peer still stale, neither mark set (R123). -/
def Station.silentDue (s : Station) (r : SilentPeer) : Bool :=
  (r.due.any fun d => decide (d ≤ s.now)) && !r.heard && !r.raised &&
    s.span.peers.any fun p => p.addr == r.addr && p.stale

/-- STATION-SILENT raised for one address; a refused raise is made again at the next advance (R123). -/
def Station.raiseSilent (s : Station) (addr : Nat) : Station :=
  match s.raise .stationSilent { PromptFields.none with peer := some addr } with
  | (s1, some num) =>
    { s1 with span := { s1.span with
      silent := updateSilent addr (fun r => { r with raised := true, prompt := some num }) s1.span.silent } }
  | (s1, none) => s1

end Sys2Proof.Machine
end

