-- ==== Sys2Proof/Machine/Accounts.lean ====
section
/-! DEFINITION. The Accounting Unit's shared operations: increments, the drive table, occupancy, the close of a period, the
snapshot and the start that keeps the store (R173 to R190). -/

namespace Sys2Proof.Machine

/-! ## Increments (R176, R177) -/

def Increment.account : Increment → Nat
  | .mount a _ _ => a
  | .occupancy a _ => a

/-- An increment added to a slot's counts (R177). -/
def Slot.add (x : Slot) : Increment → Slot
  | .mount _ ring assisted =>
    { x with mounts := inc16 x.mounts, ring := (if ring then inc16 x.ring else x.ring),
             assisted := (if assisted then inc16 x.assisted else x.assisted) }
  | .occupancy _ sec => { x with seconds := satAdd 16777215 x.seconds sec }

/-- The first slot that satisfies a test, changed; none when no slot does. -/
def chargeFirst (p : Slot → Bool) (f : Slot → Slot) : List Slot → Option (List Slot)
  | [] => none
  | x :: xs => if p x then some (f x :: xs) else (chargeFirst p f xs).map (x :: ·)

/-- The slots 0-62 charged with an increment: the slot that holds the account, else the lowest empty slot (R176). -/
def chargeSlots (inc : Increment) (slots : List Slot) : Option (List Slot) :=
  match chargeFirst (fun x => x.account == some inc.account) (fun x => x.add inc) slots with
  | some l => some l
  | none => chargeFirst (fun x => x.account == none) (fun x => ({ x with account := some inc.account }).add inc) slots

/-- The live account table charged with an increment, and whether the overflow slot was charged for an account other than
4095 (R176). -/
def AccountTable.charge (t : AccountTable) (inc : Increment) : AccountTable × Bool :=
  match chargeSlots inc t.slots with
  | some l => ({ t with slots := l }, false)
  | none => ({ t with overflow := t.overflow.add inc }, inc.account != 4095)

/-- The store with its live table charged; the accounts-full mark is not touched (R175). -/
def RetainedStore.chargeQuiet (st : RetainedStore) (inc : Increment) : RetainedStore :=
  { st with table := (st.table.charge inc).1 }

/-- An increment reaches the live table; the first overflow of a period sets the accounts-full mark and calls for
ACCOUNTS-FULL (R176). -/
def Station.chargeLive (s : Station) (inc : Increment) : Station :=
  let r := s.store.table.charge inc
  let s1 := { s with store := { s.store with table := r.1 } }
  if r.2 && !s.store.accountsFull then { s1 with store := { s1.store with accountsFull := true } }.callFor .accountsFull
  else s1

/-- An increment is made (R177, R185): charged at once, or placed in the pending list during a close, where a full list
loses it. -/
def Station.increment (s : Station) (inc : Increment) : Station :=
  if s.store.closeBusy then
    if s.store.pendingIncs.length ≤ 7 then
      { s with store := { s.store with pendingIncs := s.store.pendingIncs ++ [inc] } }
    else { s with store := { s.store with losses := inc16 s.store.losses } }
  else s.chargeLive inc

/-! ## Completions heard (R178 to R182) -/

/-- The drive record of a DONE MOUNTED (R179). -/
def DriveRecord.mounted (kind : CallKind) (d : DriveRecord) : DriveRecord :=
  { mounts := inc16 d.mounts, sinceClean := if kind = .clean then 0 else inc16 d.sinceClean }

/-- The drive table brought up to date for a DONE; a cleaning mount takes back CLEAN-DUE (R179). -/
def Station.driveUpdate (s : Station) (d : Done) : Station :=
  if d.result = .mounted then
    let s1 := { s with store := { s.store with drives := s.store.drives.modify d.driveNo (DriveRecord.mounted d.kind) } }
    if d.kind = .clean then s1.causeGone (.cleanDue d.driveNo) else s1
  else s

/-- The occupancy entry of a drive is closed, where there is one (R182). -/
def Station.closeOccupancy (s : Station) (drive : Nat) (estimated : Bool) : Station :=
  match s.store.occupancy.find? fun o => o.drive == drive with
  | none => s
  | some o =>
    let s1 := if estimated then { s with store := { s.store with occEstimated := inc16 s.store.occEstimated } } else s
    let s2 := s1.increment (.occupancy o.account (s.now - o.opened))
    { s2 with store := { s2.store with occupancy := s2.store.occupancy.filter fun x => x.drive != drive } }

/-- An occupancy entry is opened (R181). -/
def Station.openOccupancy (s : Station) (drive account : Nat) : Station :=
  { s with store := { s.store with occupancy := s.store.occupancy ++ [⟨drive, account, s.now⟩] } }

/-- The clean test of an own mount (R180). -/
def Station.cleanTest (s : Station) (d : Done) : Station :=
  if d.kind = .mount ∧ s.cv.clean ≠ 0 ∧ (s.store.drives[d.driveNo]?.any fun r => r.sinceClean == s.cv.clean) then
    s.callFor (.cleanDue d.driveNo)
  else s

/-- The Accounting Unit takes a DONE in READY (R178, R179, R182). -/
def Station.accountDone (s : Station) (own : Bool) (d : Done) : Station :=
  if d.result = .mounted then
    let s1 := (s.driveUpdate d).closeOccupancy d.driveNo true
    if own then ((s1.increment (.mount d.account d.ring d.assisted)).openOccupancy d.driveNo d.account).cleanTest d
    else s1
  else if d.kind = .demount ∧ d.result = .returned then s.closeOccupancy d.driveNo false
  else s

/-! ## Tallies (R183, R187, R188) -/

def RetainedStore.flags (st : RetainedStore) : StoreFlags := ⟨st.storeLost, st.snapInvalid, st.snapHeld, st.closeBusy⟩

/-- The period number of a TALLY (R188). -/
def RetainedStore.tallyPeriod (st : RetainedStore) (w : Which) : Nat :=
  match w with
  | .closed => if st.snapHeld then st.snapshot.period else if st.closeBusy then st.closing.period else 0
  | _ => st.period

/-- The 64 slots of the live account table. -/
def AccountTable.all (t : AccountTable) : List Slot := t.slots ++ [t.overflow]

/-- The records that a table holds from an index on, as many as asked (R188). -/
def RetainedStore.records (st : RetainedStore) (w : Which) (first count : Nat) : List Byte :=
  match w with
  | .live => ((st.table.all.drop first).take count).flatMap Slot.bytes
  | .closed => ((st.snapshot.records.drop first).take count).flatMap Slot.bytes
  | .drives => ((st.drives.zipIdx.drop first).take count).flatMap fun p => p.1.bytes p.2

/-- A TALLY is posted to the collector. -/
def Station.postTally (s : Station) (w : Which) (status : TallyStatus) (period first : Nat) (records : List Byte) : Station :=
  s.post .accounting 61 (.tally { period := period, which := w, status := status, flags := s.store.flags, first := first,
                                  records := records })

/-- A TALLY-ASK addressed to the station is answered (R188). -/
def Station.answerTally (s : Station) (w : Which) (first count : Nat) : Station :=
  let p := s.store.tallyPeriod w
  if s.store.closeBusy || (w == .closed && !s.store.snapHeld) then s.postTally w .refused p first []
  else s.postTally w .ok p first (s.store.records w first count)

/-- A PERIOD-CLOSE is refused, or a close begins (R183). -/
def Station.periodClose (s : Station) (p : Nat) : Station :=
  if s.store.closeBusy || s.store.snapHeld then s.postTally .closed .refused (s.store.tallyPeriod .closed) 0 []
  else { s with store := { s.store with closeBusy := true, closing := ⟨p, 0, 0xFFFF, false⟩ } }

/-- A TALLY-TAKEN releases the held snapshot when it names its period (R187). -/
def Station.tallyTaken (s : Station) (p : Nat) : Station :=
  if s.store.snapHeld && s.store.snapshot.period == p then
    { s with store := { s.store with snapshot := Snapshot.empty, snapHeld := false, snapInvalid := false } }.postTally
      .closed .ok p 0 []
  else s

/-! ## The close (R184, R186) -/

/-- The next slot copied into the snapshot record of the same index and folded into the check register (R184). -/
def RetainedStore.copySlot (st : RetainedStore) : RetainedStore :=
  match st.table.all[st.closing.next]? with
  | none => st
  | some x =>
    { st with snapshot := { st.snapshot with records := st.snapshot.records.take st.closing.next ++ [x] },
              closing := { st.closing with next := st.closing.next + 1, check := crcFrom st.closing.check x.bytes } }

/-- The work of one tick event while a close runs (R184): slots 0-62 are copied; the 64th event makes the completion due,
which CLOSE_COMPLETE is (log 11). -/
def RetainedStore.tickClose (st : RetainedStore) : RetainedStore :=
  if st.closeBusy then
    if st.closing.next < 63 then st.copySlot else { st with closing := { st.closing with lastDue := true } }
  else st

/-- The steps 1 to 6 of the completion that change the store alone, before the pending increments (R186). -/
def RetainedStore.completed (st : RetainedStore) : RetainedStore :=
  { st with snapshot := { st.snapshot with period := st.closing.period, check := st.closing.check }, snapHeld := true,
            table := AccountTable.cleared, accountsFull := false, closeBusy := false, pendingIncs := [],
            closing := CloseRecord.idle }

/-- The completion of a close: slot 63 is copied and the seven steps are taken in order (R186). -/
def Station.completeClose (s : Station) : Station :=
  let st := s.store.copySlot
  let p := st.closing.period
  let s1 := { s with store := st.completed }.causeGone .accountsFull
  let s2 := st.pendingIncs.foldl Station.chargeLive s1
  let s3 := { s2 with store := { s2.store with period := p, storeLost := false } }.causeGone .storeLost
  s3.postTally .closed .closed p 0 []

/-! ## Starts (R173 to R175) -/

/-- The store at a start that keeps it (R175). -/
def RetainedStore.kept (st : RetainedStore) : RetainedStore :=
  let st1 := { st with occupancy := [], occLost := satAdd 65535 st.occLost st.occupancy.length }
  let st2 := if st.snapHeld ∧ crc (st.snapshot.records.flatMap Slot.bytes) ≠ st.snapshot.check then
      { st1 with snapInvalid := true } else st1
  if st.closeBusy then
    { st2 with snapshot := Snapshot.empty, closeBusy := false, pendingIncs := [], closing := CloseRecord.idle,
               table := (st.pendingIncs.foldl RetainedStore.chargeQuiet st).table }
  else st2

end Sys2Proof.Machine
end

