-- ==== Sys2Proof/Machine/Carriage.lean ====
section
/-! DEFINITION. The Carriage Sequencer's shared operations: commands, stages, prompts of requests, completions, faults,
the door and reels with no request (R125 to R151). -/

namespace Sys2Proof.Machine

/-! ## Commands (R125, R127) -/

/-- The timeout of a command in ticks, a TRAVEL's over the distance from a position (R127). -/
def Command.timeout (c : ConfigValues) (start : Nat) : Command → Nat
  | .travel t => c.travelTimeout (dist start t)
  | .pick _ => 800
  | .place _ => 800
  | .readLabel => 300
  | .ringCheck => 200
  | .report => 100

/-- A command is written on the port and its timer starts (R125, R127). -/
def Station.issue (s : Station) (c : Command) (p : Purpose) : Station :=
  { s with seq := { s.seq with cmd := some ⟨c, p, c.timeout s.cv (s.seq.pos.getD 0), none, false⟩ } }

/-- A REPORT that checks the position; it is the REPORT owed after a door release, a HAND-LOADED answer or a stopped
TRAVEL, whichever are owed (R130, R143, R150, R151). -/
def Station.issueCheck (s : Station) : Station :=
  { s with seq := { s.seq with doorReportOwed := false, handReportOwed := false } }.issue .report .check

def Station.updateRecord (s : Station) (f : ReqRecord → ReqRecord) : Station :=
  { s with seq := { s.seq with record := s.seq.record.map f } }

/-- The call of a request in the table. -/
def Station.callOf (s : Station) (t : Tag) : Option Call := (s.req.find t).map (·.call)

/-- The call of the request in the request record. -/
def Station.activeCall (s : Station) : Option Call := s.seq.record.bind fun r => s.callOf r.tag

/-- The gripper holds the request's reel, or the reel waits in the window during a write-ring detour (R129). No reel is held for a
request abandoned at RELEASE, whose record is cleared (DESIGN CHOICE, log 48). -/
def Station.reelHeld (s : Station) (t : Tag) : Bool :=
  s.seq.record.any fun r => r.tag == t && (s.seq.hand == .request || r.stage == .detourPick)

/-- The request has reached pick completion (R92, R129). -/
def Station.pickDone (s : Station) (t : Tag) : Bool := s.seq.record.any fun r => r.tag == t && r.pickDone

/-! ## Places of a request (R133, R137, R138) -/

/-- The destination place of a request. -/
def Station.destPlace (s : Station) (d : Dest) (c : Call) : Place :=
  match d with
  | .drive => c.drive
  | .ret => s.cv.resolve (c.ret.getD default)
  | .source => s.cv.resolve (c.source.getD default)
  | .window => s.cv.windowPlace

/-- The place a stage needs the carriage at; none where the stage needs no place (R133, R136, R138). -/
def Station.stagePlace (s : Station) (r : ReqRecord) (c : Call) : Option Place :=
  match r.stage with
  | .toSource | .picking => some (s.cv.sourceOf c)
  | .detourTravel | .detourPlace | .detourPick => some s.cv.windowPlace
  | .toDrive => if c.kind = .demount then some c.drive else some (s.destPlace r.dest c)
  | .toCell | .placing => some (s.destPlace r.dest c)
  | _ => none

/-- The stage after a travel stage whose target is reached (R131, R133, R138). -/
def Stage.arrived (k : CallKind) : Stage → Stage
  | .toSource => .picking
  | .detourTravel => .detourPlace
  | .toDrive => if k = .demount then .picking else .placing
  | .toCell => .placing
  | x => x

/-- The carrying stage of a call: TO-CELL of a demount, TO-DRIVE of a mount (R133, R138). -/
def carryingStage (k : CallKind) : Stage := if k = .demount then .toCell else .toDrive

/-- The stage after a good label, or an accepted one: RING when the ring is wanted (R135, R140). -/
def afterLabel (c : Call) : Stage := if c.ring then .ring else .toDrive

/-! ## Prompts of a request (R139) -/

/-- A stage raises its request-bound prompt and the request enters WAIT-OPERATOR with a stage to resume (R139). -/
def Station.raiseBound (s : Station) (k : PromptKind) (resume : Stage) (pos drive : Option Nat) : Station :=
  match s.seq.record, s.activeCall with
  | some r, some c =>
    let x := s.raise k { PromptFields.none with tag := some r.tag, volume := some c.volume, pos := pos, drive := drive }
    x.1.updateRecord fun r => { r with stage := resume, waiting := some k, prompt := x.2 }
  | _, _ => s

/-! ## DONE (R142) -/

/-- The fields of a DONE of an own request (R142). -/
def doneOf (c : Call) (result : Result) (assisted : Bool) : Done :=
  { tag := c.tag, kind := c.kind, result := result, driveNo := c.driveNo, volume := c.volume, account := c.account,
    ring := c.kind != .demount && c.ring, assisted := assisted }

/-- The request of a tag is OWNED. -/
def RequestUnit.owns (r : RequestUnit) (t : Tag) : Bool := (r.find t).any fun e => e.state == .owned

/-- The oldest DONE of a dropped request removed from the DONE list (R142). -/
def removeDropped (req : RequestUnit) : List DoneRecord → List DoneRecord
  | [] => []
  | x :: xs => if req.owns x.done.tag then x :: removeDropped req xs else xs

/-- A DONE joins the DONE list, which holds four, and is posted (R142). -/
def Station.postDone (s : Station) (d : Done) : Station :=
  let l := if s.seq.doneList.length ≤ 3 then s.seq.doneList else removeDropped s.req s.seq.doneList
  { s with seq := { s.seq with doneList := l ++ [DoneRecord.mk d none] } }.post .sequencer 63 (.done d)

/-- The request enters COMPLETING and its DONE is posted (R142). -/
def Station.complete (s : Station) : Station :=
  match s.seq.record, s.activeCall with
  | some r, some c =>
    (s.updateRecord fun r => { r with stage := .completing, waiting := none, prompt := none }).postDone
      (doneOf c r.outcome r.assisted)
  | _, _ => s

/-- The own echo of a DONE: it leaves the DONE list, and the record it belongs to is cleared (R142). -/
def removeDone (d : Done) : List DoneRecord → List DoneRecord
  | [] => []
  | x :: xs => if x.done = d then xs else x :: removeDone d xs

def Station.doneEcho (s : Station) (d : Done) : Station :=
  { s with seq := { s.seq with
    doneList := removeDone d s.seq.doneList,
    record := if s.seq.record.any fun r => r.tag == d.tag && r.stage == .completing then none else s.seq.record } }

/-- The DONE records whose re-post timer has run out are posted again (R142), several in list order (DESIGN CHOICE, log 66). -/
def Station.repostDone (s : Station) : Station :=
  let due := s.seq.doneList.filter fun x => expired x.timer
  let s1 := { s with seq := { s.seq with
    doneList := s.seq.doneList.map fun x => if expired x.timer then { x with timer := none } else x } }
  due.foldl (fun s x => s.post .sequencer 63 (.done x.done)) s1

/-! ## Faults (R55, R144) -/

/-- CARRIAGE-FAULT is raised with the known or last position and the tag of the request that is ACTIVE (R92, R144), without a tag
under R147. A refused raise is owed. -/
def Station.raiseFault (s : Station) : Station :=
  match s.seq.fault with
  | none => s
  | some f =>
    let x := s.raise .carriageFault { PromptFields.none with
      tag := if f.noTag then none else s.req.active, pos := some (s.seq.pos.getD 0) }
    { x.1 with seq := { x.1.seq with fault := some { f with prompt := x.2, raiseOwed := x.2.isNone } } }

/-- A learning REPORT failed: the own span is the whole stretch the carriage could occupy, FIXED, and its centre is the last
position; the position stays unknown (R55, R129). -/
def Station.learningFault (s : Station) : Station :=
  let lo := s.cv.spanLo (s.cv.bandLo s.k)
  let hi := s.cv.spanHi (s.cv.bandHi s.k)
  { s with seq := { s.seq with pos := some (centre lo hi) } }.stateOwn { lo := lo, hi := hi, kind := .fixed, reassert := false }

/-- The command is a TRAVEL. -/
def Command.isTravel : Command → Bool
  | .travel _ => true
  | _ => false

/-- A carriage fault opens for a command (R144): every outstanding command ends, FAULTED is set, CARRIAGE-FAULT is raised. With
a fault already open the record becomes this command and the prompt is raised again (R145), where a STOP fails while CARRIAGE-FAULT
still stands too, which is then a prompt of no record (DESIGN CHOICE, log 75). A command recorded to resume whose
STOP failed (R128) is the failed command, and is taken up as such (R146, log 57). -/
def Station.openFault (s : Station) (c : Command) (p : Purpose) : Station :=
  let s1 := { s with seq := { s.seq with
    cmd := none, stop := none, fault := some ⟨c, p, none, none, false, false, false⟩,
    resume := if s.seq.resume = some (c, p) then none else s.seq.resume,
    posKnown := s.seq.posKnown && !c.isTravel } }
  (if s.faulted then s1 else if s.span.own = none then s1.learningFault else s1.holdSpan).raiseFault

/-! ## Put-back and HAND-LOADED (R151) -/

/-- HAND-LOADED is raised with the known or last position; a refused raise is owed. -/
def Station.raiseHandLoaded (s : Station) : Station :=
  let x := s.raise .handLoaded { PromptFields.none with pos := some (s.seq.pos.getD 0) }
  { x.1 with seq := { x.1.seq with handPrompt := x.2, handRaiseOwed := x.2.isNone } }

/-- The hand is ORPHAN with no put-back, no HAND-LOADED prompt standing or owed, and no fault open: HAND-LOADED is raised. -/
def Station.orphanRaise (s : Station) : Station :=
  if s.seq.hand = .orphan ∧ s.seq.putBack = none ∧ s.seq.handPrompt = none ∧ s.seq.handRaiseOwed = false ∧
      s.seq.handReportOwed = false ∧ s.faulted = false then s.raiseHandLoaded else s

/-- The hand is EMPTY: a HAND-LOADED prompt in the list is withdrawn. -/
def Station.handEmptied (s : Station) : Station :=
  let s1 := { s with seq := { s.seq with
    hand := .empty, putBack := none, handPrompt := none, handRaiseOwed := false, handReportOwed := false } }
  match s.seq.handPrompt with
  | some num => s1.withdrawPrompt .sequencer num
  | none => s1

/-! ## Ends of PICK and PLACE (R134, R136, R137) -/

/-- The request of the record stands at a PICK. -/
def Station.atPick (s : Station) : Bool := s.seq.record.any fun r => r.stage == .picking || r.stage == .detourPick

/-- The record after a PICK that completed OK: pick completion set, the following stage (R134, R136, R138). -/
def ReqRecord.picked (k : CallKind) (r : ReqRecord) : ReqRecord :=
  { r with pickDone := true, stage := if r.stage = .detourPick then .ring else if k = .demount then .toCell else .label }

/-- A PICK of the ACTIVE request completed OK (R134, R136, R138). -/
def Station.pickOk (s : Station) : Station :=
  match s.activeCall with
  | none => s
  | some c =>
    { s with seq := { s.seq with hand := .request } }.updateRecord (ReqRecord.picked c.kind)

/-- A reel picked for a request already dropped: ORPHAN, to be put back where it came from (R143, R151). -/
def Station.orphaned (s : Station) (p : Place) : Station := { s with seq := { s.seq with hand := .orphan, putBack := some p } }

/-- A PLACE of the ACTIVE request completed OK (R136, R137). -/
def Station.placeOk (s : Station) : Station :=
  match s.seq.record with
  | none => s
  | some r =>
    if r.stage = .placing then { s with seq := { s.seq with hand := .empty } }.complete
    else if r.stage = .detourPlace then { s with seq := { s.seq with hand := .empty } }.raiseBound .ringNeeded .detourPick none none
    else s

/-- The hand after a REPORT that completed OK (R145). -/
def handAfter (h : Hand) (loaded : Bool) : Hand :=
  if loaded then (if h = .request then .request else .orphan) else .empty

/-- The request of the record is in WAIT-OPERATOR (R139). -/
def Station.waits (s : Station) : Bool := s.seq.record.any fun r => r.waiting.isSome

/-- A command is taken up from the hand after RETRY or a door release (R146, R150). What is not taken as done is issued again
by its stage, its put-back or its move. Where the command had completed before its STOP failed, a request in WAIT-OPERATOR stays there
with its prompt, and one whose stage has gone on stands at the stage reached (R128, R139, R144; DESIGN CHOICE, log 70). -/
def Station.takeUp (s : Station) (c : Command) (p : Purpose) : Station :=
  match c with
  | .pick place =>
    if s.seq.hand ≠ .empty then
      if s.atPick then (if s.waits then s else s.pickOk) else if s.seq.hand = .orphan then s.orphaned place else s
    else s
  | .place _ =>
    if s.seq.hand = .empty then (if p = .putBack then s.handEmptied else if s.waits then s else s.placeOk) else s
  | _ => s

/-- The command recorded to resume after a STOP for the door is taken up (R148, R150). A TRAVEL stays recorded until its move is
taken, since it is always resumed through a fresh reservation; that of a put-back whose reel is gone is not resumed. -/
def Station.takeUpResume (s : Station) : Station :=
  match s.seq.resume with
  | none => s
  | some (.travel _, p) =>
    if p = .putBack ∧ s.seq.hand ≠ .orphan then { s with seq := { s.seq with resume := none } } else s
  | some (c, p) => { s with seq := { s.seq with resume := none } }.takeUp c p

/-- The target of a TRAVEL of a purpose that is recorded to resume (R150). -/
def Sequencer.resumedTravel (q : Sequencer) (p : Purpose) : Option Nat :=
  match q.resume with
  | some (.travel t, u) => if u = p then some t else none
  | _ => none

/-- A place is reached: the carriage stands there, and no TRAVEL to it is recorded to resume (R131, R150). -/
def Sequencer.reached (q : Sequencer) (target : Nat) (p : Purpose) : Bool :=
  q.pos == some target && (q.resumedTravel p).isNone

/-! ## The next step (R130, R131) -/

/-- A TRAVEL of a purpose is recorded to resume no more: its fresh reservation has begun (R150). -/
def Sequencer.resumeTaken (q : Sequencer) (p : Purpose) : Sequencer :=
  if (q.resumedTravel p).isSome then { q with resume := none } else q

/-- A move is asked unless one was refused since the last tick (R131). -/
def Station.askMove (s : Station) (target : Nat) (p : Purpose) : Station :=
  if s.seq.moveRefused then s
  else
    match s.requestMove target p with
    | (s1, .taken) => { s1 with seq := s1.seq.resumeTaken p }
    | (_, .nudgeFirst) => s
    | (_, .refused) => { s with seq := { s.seq with moveRefused := true } }

/-- The command of a stage at its place (R134 to R138). -/
def Stage.command (place : Place) : Stage → Option Command
  | .picking | .detourPick => some (.pick place)
  | .placing | .detourPlace => some (.place place)
  | .label => some .readLabel
  | .ring => some .ringCheck
  | _ => none

/-- The ACTIVE request's stage goes on (R130, item 7): LOAD-WINDOW is raised at LOAD-WAIT; a stage that needs the carriage
elsewhere asks its move; a travel stage at its target is passed; the stage's command is issued. -/
def Station.stageStep (s : Station) : Station :=
  match s.seq.record, s.activeCall with
  | some r, some c =>
    if r.waiting.isSome || r.stage == .completing then s
    else if r.stage = .loadWait then s.raiseBound .loadWindow .toSource none none
    else
      match s.stagePlace r c with
      | some p =>
        if s.seq.reached p.pos .stage then
          let next := r.stage.arrived c.kind
          let s1 := s.updateRecord fun r => { r with stage := next }
          (match next.command p with
           | some cmd => s1.issue cmd .stage
           | none => s1)
        else s.askMove p.pos .stage
      | none =>
        match r.stage.command default with
        | some cmd => s.issue cmd .stage
        | none => s
  | _, _ => s

/-- The put-back of an orphan's reel: a travel to its place, then PLACE (R151). -/
def Station.putBackStep (s : Station) : Station :=
  match s.seq.putBack with
  | none => s
  | some p => if s.seq.reached p.pos .putBack then s.issue (.place p) .putBack else s.askMove p.pos .putBack

/-- The requests abandoned at RELEASE: OWNED, with no DONE in the DONE list (R147), in the order of the owned list (DESIGN
CHOICE, log 66). -/
def Station.abandonable (s : Station) : List Tag := s.req.owned.filter fun t => s.req.owns t && !s.seq.doneWaiting t

/-- One request abandoned: its bound prompt is withdrawn and DONE ABANDONED is posted (R147). -/
def Station.abandon (s : Station) (t : Tag) : Station :=
  match s.callOf t with
  | none => s
  | some c =>
    match s.seq.record with
    | some r =>
      if r.tag = t then
        (match r.waiting, r.prompt with
         | some _, some num => s.withdrawPrompt .sequencer num
         | _, _ => s).postDone (doneOf c .abandoned r.assisted)
      else s.postDone (doneOf c .abandoned false)
    | none => s.postDone (doneOf c .abandoned false)

/-- A reel in the gripper whose request is abandoned is a reel of no request (R129, R151). -/
def Hand.abandoned : Hand → Hand
  | .request => .orphan
  | h => h

/-- RELEASE is carried out: the requests are abandoned and the record is cleared, a reel in the gripper is ORPHAN, and nothing is
left to take up (R147, R151, log 28). -/
def Station.abandonAll (s : Station) (f : FaultRecord) : Station :=
  let s1 := s.abandonable.foldl Station.abandon s
  { s1 with seq := { s1.seq with record := none, hand := s1.seq.hand.abandoned, putBack := none, resume := none,
                                 fault := some { f with cmd := .report, purpose := .check } } }

/-- The release REPORT is in flight, or is not (R145). -/
def FaultRecord.setReporting (b : Bool) (f : FaultRecord) : FaultRecord := { f with reporting := b }

/-- With a fault open, the only command is the release REPORT, after the fault's answer (R130, R145). -/
def Station.faultStep (s : Station) (f : FaultRecord) : Station :=
  match f.answer with
  | none => s
  | some a =>
    let s1 := if a = .release then s.abandonAll f else s
    { s1 with seq := { s1.seq with fault := s1.seq.fault.map (FaultRecord.setReporting true) } }.issue .report .check

/-- The target of the home move that is due (R130, R131): that of a home TRAVEL to resume, else, for a position outside the band,
the band position nearest it. -/
def Station.homeTarget (s : Station) : Option Nat :=
  match s.seq.resumedTravel .home with
  | some t => some t
  | none => let p := s.seq.pos.getD 0; if s.cv.inBand s.k p then none else some (s.cv.nearest s.k p)

/-- The next step while the carriage is free and no nudge holds it back, door latch clear (R130, items 3 to 7). -/
def Station.nextStep (s : Station) : Station :=
  match s.seq.fault with
  | some f => s.faultStep f
  | none =>
    if !s.seq.posKnown || s.seq.doorReportOwed || s.seq.handReportOwed then s.issueCheck
    else if s.span.move.isSome then s
    else
      match s.homeTarget with
      | some t => s.askMove t .home
      | none => if s.seq.hand = .orphan then s.putBackStep else s.stageStep

/-- The Sequencer's next step is chosen (R130). A grant has its TRAVEL issued (R131); held nudges are served first (R120),
and a nudge being served holds back all but the REPORT of an unknown position (R114, R122). A grant's TRAVEL is issued whatever the
hand holds, an ORPHAN reel too (DESIGN CHOICE, log 67). In LEARNING only REPORT is issued (R53). -/
def Station.chooseNext (s : Station) : Station :=
  if !s.seq.idle then s
  else
    match s.ctl.mode with
    | .learning =>
      (match s.seq.fault with
       | some f => s.faultStep f
       | none => if s.seq.handReportOwed then s.issueCheck else s)
    | .ready =>
      (match s.span.reservation, s.span.move with
       | .granted, some m => s.issue (.travel m.target) m.purpose
       | _, _ =>
         let s1 := s.serveHeld
         if (s1.span.serving && s1.seq.posKnown) || s1.seq.doorLatch then s1 else s1.nextStep)
    | _ => s

/-! ## Drops (R143) -/

/-- A stage's command in flight whose request is dropped is left to complete as a reel's or a stage's of no request (R143). -/
def InFlight.dropped (f : InFlight) : InFlight := if f.purpose = .stage then { f with orphan := true } else f

/-- A TRAVEL of a stage is in flight. -/
def Sequencer.stageTravels (q : Sequencer) : Bool := q.travelling && q.cmd.any fun f => f.purpose == .stage

/-- The ACTIVE request is dropped without an own DONE (R143). A drop of the NEXT request changes nothing here. -/
def Station.dropRequest (s : Station) (t : Tag) : Station :=
  match s.seq.record with
  | none => s
  | some r =>
    if r.tag ≠ t then s
    else
      let s1 := match r.waiting, r.prompt with
        | some _, some num => s.withdrawPrompt .sequencer num
        | _, _ => s
      let s2 := if s1.span.move.any fun m => m.purpose == .stage then s1.giveUpMove else s1
      let s3 := { s2 with seq := { s2.seq with cmd := s2.seq.cmd.map InFlight.dropped } }
      let s4 := if s3.seq.stageTravels then s3.sendStop ⟨false, false, true⟩ else s3
      { s4 with seq := { s4.seq with
        record := none, moveRefused := false,
        resume := if s4.seq.resume.any fun x => x.2 == .stage then none else s4.seq.resume } }

/-! ## Completions (R126) -/

/-- The completion of the command in flight, where the status word names it: the code as taken, the command, and the
station with no command in flight (R126, R127). -/
def Station.completes (s : Station) (code : Nat) (status : Word) : Option (Code × InFlight × Station) :=
  match s.seq.cmd with
  | none => none
  | some f =>
    if f.cmd.code = code ∧ statusCommand status = code then
      some (validCode f.cmd f.causes.isSome (statusCode status), f, { s with seq := { s.seq with cmd := none } })
    else none

/-- A STOP of the command was caused by the door. -/
def InFlight.doorStopped (f : InFlight) : Bool := f.causes.any fun c => c.door

/-- A STOPPED command is recorded to resume: the door stopped it, its request stands, and it is no nudge's TRAVEL, which R107 gave
up, nor that of a request gone before it was issued (R143, R146, R148). -/
def InFlight.resumes (f : InFlight) : Bool := f.doorStopped && !f.orphan && f.purpose != .nudge && f.purpose != .dropped

/-- A STOPPED command is recorded to resume, where it is one to resume (R148). -/
def Station.recordResume (s : Station) (f : InFlight) : Station :=
  if f.resumes then { s with seq := { s.seq with resume := some (f.cmd, f.purpose) } } else s

/-- A completed REPORT of a position the carriage reached: the move's TRAVEL parks (R112, R114), any other report is a
position learnt (R105). -/
def Station.arriveAt (s : Station) (p : Nat) : Station :=
  let s1 := { s with seq := { s.seq with pos := some p, posKnown := true } }
  if s.span.reservation = .granted ∨ s.span.reservation = .waiting then s1.parkAt p else s1.reportPosition p

/-- A TRAVEL completion (R131, R132, R112). A TRAVEL stopped for a dropped request is followed by REPORT (R143). -/
def Station.travelDone (s : Station) (f : InFlight) (target : Nat) (c : Code) : Station :=
  match c with
  | .ok =>
    let s1 := s.arriveAt target
    if f.causes.any fun c => c.dropped then { s1 with seq := { s1.seq with doorReportOwed := true } } else s1
  | .stopped =>
    let s1 := { s with seq := { s.seq with posKnown := false } }
    (if s.span.reservation = .granted then s1.stoppedOnOwn else s1).recordResume f
  | _ => s.openFault f.cmd f.purpose

/-- A PICK completion (R134, R143, R148). -/
def Station.pickEnd (s : Station) (f : InFlight) (place : Place) (c : Code) : Station :=
  match c with
  | .ok => if f.orphan || !s.atPick then s.orphaned place else s.pickOk
  | .empty =>
    if f.orphan then s
    else
      match s.seq.record with
      | some r => s.raiseBound .cellEmpty r.stage (some place.pos) none
      | none => s
  | .stopped => s.recordResume f
  | _ => s.openFault f.cmd f.purpose

/-- SLOT-OCCUPIED is raised for the place aimed at, with the drive number when it is a drive slot (R136, R137). The stage to resume
is the one that placed: RETRY at step 2 of a detour repeats step 2 (DESIGN CHOICE, log 52). -/
def Station.raiseOccupied (s : Station) (place : Place) : Station :=
  match s.seq.record, s.activeCall with
  | some r, some c =>
    s.raiseBound .slotOccupied r.stage (some place.pos)
      (if r.stage = .placing ∧ r.dest = .drive then some c.driveNo else none)
  | _, _ => s

/-- The end of the PLACE of a put-back (R151). After OCCUPIED or STOPPED there is no put-back to take up, even where the STOP fails
thereafter (log 29). -/
def Station.putBackEnd (s : Station) (f : InFlight) (c : Code) : Station :=
  match c with
  | .ok => s.handEmptied
  | .fault => s.openFault f.cmd f.purpose
  | .empty | .occupied | .stopped => { s with seq := { s.seq with putBack := none } }.orphanRaise

/-- A PLACE completion (R136, R137, R148, R151). One of a request already dropped touches no record and raises nothing (R143). -/
def Station.placeEnd (s : Station) (f : InFlight) (place : Place) (c : Code) : Station :=
  if f.purpose = .putBack then s.putBackEnd f c
  else
    match c with
    | .ok => if f.orphan then { s with seq := { s.seq with hand := .empty } } else s.placeOk
    | .occupied => if f.orphan then s else s.raiseOccupied place
    | .stopped => s.recordResume f
    | .empty | .fault => s.openFault f.cmd f.purpose

/-- A READ-LABEL that completed OK: the label is compared (R135). -/
def Station.labelOk (s : Station) (unreadable w1 w2 w3 : Word) : Station :=
  match s.activeCall with
  | some call =>
    if labelMatches unreadable w1 w2 w3 call.volume then s.updateRecord fun r => { r with stage := afterLabel call }
    else s.raiseBound .serialMismatch .label none none
  | none => s

/-- A READ-LABEL completion (R135); that of a request already dropped is of no stage (R143). -/
def Station.labelEnd (s : Station) (f : InFlight) (unreadable w1 w2 w3 : Word) (c : Code) : Station :=
  match c with
  | .ok => if f.orphan then s else s.labelOk unreadable w1 w2 w3
  | .stopped => s.recordResume f
  | _ => s.openFault f.cmd f.purpose

/-- A RING-CHECK completion: 0 is absent, any other word present (R126, R136); that of a request already dropped is of no stage
(R143). -/
def Station.ringEnd (s : Station) (f : InFlight) (present : Word) (c : Code) : Station :=
  match c with
  | .ok => if f.orphan then s else s.updateRecord fun r => { r with stage := if present = 0 then .detourTravel else .toDrive }
  | .stopped => s.recordResume f
  | _ => s.openFault f.cmd f.purpose

/-- The release REPORT of RETRY completed OK (R146): the fault closes and the failed command is taken up. -/
def Station.retryDone (s : Station) (f : FaultRecord) (p : Nat) : Station :=
  ((({ s with seq := { s.seq with fault := none } }.reportPosition p).conditionCleared).takeUp f.cmd f.purpose).takeUpResume

/-- The release REPORT of RELEASE completed OK (R147): an empty gripper closes the fault; a loaded one is an ORPHAN reel, the
fault stays open and CARRIAGE-FAULT is raised again with no tag. -/
def Station.releaseDone (s : Station) (f : FaultRecord) (p : Nat) (loaded : Bool) : Station :=
  if loaded then
    ({ s with seq := { s.seq with
      hand := .orphan, fault := some ⟨f.cmd, f.purpose, none, none, false, false, true⟩ } }.reportPosition p).raiseFault
  else ({ s with seq := { s.seq with fault := none } }.reportPosition p).conditionCleared

/-- A REPORT that completed OK (R54, R145 to R147, R150, R151). The own SPAN is posted before HAND-LOADED is raised (DESIGN CHOICE,
log 73). -/
def Station.reportOk (s : Station) (p : Nat) (loaded : Bool) : Station :=
  let s1 := { s with seq := { s.seq with pos := some p, posKnown := true, hand := handAfter s.seq.hand loaded } }
  let s2 := match s.seq.fault with
    | some f =>
      (match f.answer with
       | some .retry => s1.retryDone f p
       | some .release => s1.releaseDone f p loaded
       | none => s1.reportPosition p)
    | none => (s1.reportPosition p).takeUpResume
  if loaded then s2.orphanRaise else s2.handEmptied

/-- The release REPORT did not complete OK, stopped for the door: the fault stays open, its record becomes this REPORT and
CARRIAGE-FAULT is raised again (R145, log 43). -/
def Station.releaseStopped (s : Station) (f : FaultRecord) : Station :=
  if f.reporting then
    { s with seq := { s.seq with fault := some ⟨.report, .check, none, none, false, false, false⟩ } }.raiseFault
  else s

/-- A REPORT completion. No stage issues a REPORT, so a stopped one leaves the command recorded to resume as it is (R148,
R150, log 43). -/
def Station.reportEnd (s : Station) (f : InFlight) (position loaded : Word) (c : Code) : Station :=
  match c with
  | .ok => s.reportOk position.toNat (loaded != 0)
  | .stopped =>
    (match s.seq.fault with
     | some g => s.releaseStopped g
     | none => s)
  | _ => s.openFault f.cmd f.purpose

/-- A STOP completion (R126, R128). -/
def Station.stopEnd (s : Station) (status : Word) : Station :=
  match s.seq.stop with
  | none => s
  | some x =>
    if statusCode status = .ok then { s with seq := { s.seq with stop := none } } else s.openFault x.target x.purpose

/-! ## The answers (R140, R145, R151) -/

/-- The effect of the answer to a request-bound prompt (R140). -/
def Station.boundEffect (s : Station) (r : ReqRecord) (c : Call) (k : PromptKind) (a : Answer) : Station :=
  let go (stage : Stage) : Station := s.updateRecord fun r => { r with stage := stage }
  let finish (o : Result) : Station := (s.updateRecord fun r => { r with outcome := o }).complete
  let carry (d : Dest) (o : Result) : Station :=
    s.updateRecord fun r => { r with dest := d, outcome := o, stage := carryingStage c.kind }
  match k, a with
  | .loadWindow, .cont => go .toSource
  | .loadWindow, .skip => finish .declined
  | .cellEmpty, .retry => go r.stage
  | .cellEmpty, .skip => finish .notFound
  | .serialMismatch, .accept => go (afterLabel c)
  | .serialMismatch, .returnReel => carry .source .declined
  | .serialMismatch, .skip => carry .window .declined
  | .ringNeeded, .cont => go .detourPick
  | .ringNeeded, .skip => finish .declined
  | .slotOccupied, .retry => go r.stage
  | .slotOccupied, .window => carry .window (if c.kind = .demount then .returned else .declined)
  | _, _ => s

/-- The answer to a request-bound prompt: the assisted flag is set and the wait ends (R139, R140). -/
def Station.boundAnswer (s : Station) (num : Nat) (k : PromptKind) (a : Answer) : Station :=
  match s.seq.record, s.activeCall with
  | some r, some c =>
    if r.waiting = some k ∧ r.prompt = some num then
      (s.updateRecord fun r => { r with assisted := true, waiting := none, prompt := none }).boundEffect r c k a
    else s
  | _, _ => s

/-- The answer to CARRIAGE-FAULT is kept until it can be carried out (R145). -/
def FaultRecord.answered (num : Nat) (a : Answer) (f : FaultRecord) : FaultRecord :=
  if f.prompt = some num then { f with prompt := none, answer := some (if a = .retry then .retry else .release) } else f

/-- The answer reaches the open fault (R145, R171). -/
def Station.faultAnswer (s : Station) (num : Nat) (a : Answer) : Station :=
  { s with seq := { s.seq with fault := s.seq.fault.map (FaultRecord.answered num a) } }

/-- HAND-LOADED answered CONTINUE: a REPORT is owed (R151). -/
def Station.handAnswer (s : Station) (num : Nat) : Station :=
  if s.seq.handPrompt = some num then { s with seq := { s.seq with handPrompt := none, handReportOwed := true } } else s

/-! ## The door (R148 to R150) -/

/-- The latch is set (R148, R149): the raise timer starts at k seconds, STOP is issued, HELD reaches the Span Unit. -/
def Station.setLatch (s : Station) : Station :=
  ({ s with seq := { s.seq with doorLatch := true, door := { s.seq.door with timer := some (100 * s.k) } } }.sendStop
    ⟨true, false, false⟩).holdSpan

/-- DOOR-OPEN is raised; a refused raise is owed, and sets no raised mark (R149; the mark at an accepted raise alone is DESIGN CHOICE,
log 74). -/
def Station.raiseDoor (s : Station) : Station :=
  let x := s.raise .doorOpen PromptFields.none
  { x.1 with seq := { x.1.seq with door := { x.1.seq.door with
    raised := x.1.seq.door.raised || x.2.isSome, prompt := x.2, raiseOwed := x.2.isNone } } }

/-- The raise timer expires (R149). -/
def Station.doorTimerEnd (s : Station) : Station :=
  let s1 := { s with seq := { s.seq with door := { s.seq.door with timer := none } } }
  if s.seq.doorLatch && !s.seq.door.heard then s1.raiseDoor else s1

/-- A DOOR-OPEN PROMPT heard: its number is recorded against the sender, and a peer's sets the heard mark (R149). -/
def Station.doorHeard (s : Station) (own : Bool) (addr num : Nat) : Station :=
  { s with seq := { s.seq with door := { s.seq.door with
    numbers := (s.seq.door.numbers.filter fun d => d.addr != addr) ++ [⟨addr, num⟩],
    heard := s.seq.door.heard || !own } } }

/-- A door release (R150). -/
def Station.doorRelease (s : Station) : Station :=
  if s.seq.doorLatch then
    if s.pins.door then s
    else
      let s1 := match s.seq.door.raised, s.seq.door.prompt with
        | true, some num => s.withdrawPrompt .sequencer num
        | _, _ => s
      { s1 with seq := { s1.seq with
        doorLatch := false, door := DoorRecord.reset,
        doorReportOwed := s1.seq.doorReportOwed || !s1.faulted } }.conditionCleared
  else { s with seq := { s.seq with door := DoorRecord.reset } }

/-! ## Raises made again at an advance (R144, R149, R151) -/

/-- The refused raises of the Sequencer are made again. HAND-LOADED waits while a CARRIAGE-FAULT raised under R147 stands. -/
def Station.retryRaises (s : Station) : Station :=
  let s1 := if s.seq.fault.any fun f => f.raiseOwed then s.raiseFault else s
  let s2 := if s1.seq.door.raiseOwed && s1.seq.doorLatch && !s1.seq.door.heard then s1.raiseDoor else s1
  if s2.seq.handRaiseOwed && s2.seq.hand == .orphan && !(s2.seq.fault.any fun f => f.noTag) then s2.raiseHandLoaded else s2

end Sys2Proof.Machine
end

