-- ==== Sys2Proof/Machine/Claims.lean ====
section
/-! DEFINITION. The Request Unit's shared operations: arrival of calls, offers, takes, the owned list, rescans, completion,
ageing and waiting calls (R79 to R101). -/

namespace Sys2Proof.Machine

/-! ## Prompts and ends of entries (R93, R94, R101) -/

/-- The entry's REQUEST-WAITING prompt raised here is withdrawn (R101). -/
def Station.withdrawWaiting (s : Station) (t : Tag) : Station :=
  match (s.req.find t).bind (·.prompt) with
  | none => s
  | some num => (s.updateEntry t fun e => { e with prompt := none }).withdrawPrompt .request num

/-- The entry of a tag holds an outstanding own offer. -/
def RequestUnit.offerOut (r : RequestUnit) (t : Tag) : Bool := (r.find t).any Entry.outstanding

/-- An own outstanding offer is about to end with its entry: a rescan point (R94). -/
def Station.endOffer (s : Station) (t : Tag) : Station := if s.req.offerOut t then s.rescanPoint else s

/-- An entry is removed from the table (R80, R93, R96, R99): its prompt is withdrawn and its own offer ends. -/
def Station.removeEntry (s : Station) (t : Tag) : Station :=
  let s1 := (s.endOffer t).withdrawWaiting t
  { s1 with req := { s1.req with table := s1.req.table.filter fun e => e.call.tag != t } }

/-- An entry goes to PEER (R88, R89, R91). -/
def Station.setPeer (s : Station) (t : Tag) (o : Owner) : Station :=
  ((s.endOffer t).withdrawWaiting t).updateEntry t (Entry.toPeer o)

/-! ## Offers (R81 to R83) -/

/-- An OFFER is posted with a cost and its base, and the entry is in BIDDING (R81). The own offer stands in the entry before
the posting, so that a drop at the posting finds it. -/
def Station.postOffer (s : Station) (t : Tag) (cost base : Nat) : Station :=
  (s.updateEntry t fun e => { e with state := .bidding, ownOffer := some ⟨cost, base, false⟩ }).post .request 63
    (.offer t cost s.k)

/-- The station may offer: READY with neither HELD nor FAULTED set, and offer capacity (R79, R83). -/
def Station.mayOffer (s : Station) : Bool := s.fit && decide (0 < s.req.capacity)

/-- The station offers on an entry if it may and the call is reachable (R79, R81). -/
def Station.offerOn (s : Station) (e : Entry) : Station :=
  if s.mayOffer then
    match s.cost e.call with
    | some (c, b) => s.postOffer e.call.tag c b
    | none => s
  else s

/-! ## Arrival (R79, R80) -/

/-- The oldest PEER entry. -/
def RequestUnit.oldestPeer (r : RequestUnit) : Option Entry := r.table.find? fun e => e.state == .peer

/-- A call is recorded at the tail and offered on. -/
def Station.record (s : Station) (c : Call) : Station :=
  let e := Entry.new c s.now
  { s with req := { s.req with table := s.req.table ++ [e] } }.offerOn e

/-- A call is heard (R79, R80). -/
def Station.callHeard (s : Station) (c : Call) : Station :=
  if (s.req.find c.tag).isSome then s
  else if s.req.table.length ≤ 15 then s.record c
  else
    match s.req.oldestPeer with
    | some e => (s.removeEntry e.call.tag).record c
    | none => s.countCallDropped

/-! ## Hearing an OFFER (R82, R83, R90) -/

/-- The owner is stale: its span table entry carries the stale flag (R82). -/
def Station.ownerStale (s : Station) (o : Option Owner) : Bool :=
  o.any fun w => s.span.peers.any fun p => p.addr == w.addr && p.stale

/-- The better of the offer heard and the one held (R82). -/
def betterOffer (held : Option Offer) (o : Offer) : Offer :=
  match held with
  | none => o
  | some h => if o.beats h then o else h

/-- The entry opened to bidding by an OFFER: a window, unless one runs, and the best offer heard (R82). -/
def Entry.opened (o : Offer) (e : Entry) : Entry := { e with state := .bidding, phase := .window, best := some o }

/-- The entry in BIDDING after a further OFFER (R82). -/
def Entry.bidFurther (o : Offer) (e : Entry) : Entry :=
  { e with best := some (betterOffer e.best o), phase := if e.phase = .none then .window else e.phase }

/-- The own offer is marked heard back (R82). -/
def Entry.markHeard (e : Entry) : Entry := { e with ownOffer := e.ownOffer.map fun o => { o with heardBack := true } }

/-- A counter-offer on the entry a peer's OFFER opened (R83). -/
def Station.counterOffer (s : Station) (t : Tag) (o : Offer) : Station :=
  match s.req.find t with
  | none => s
  | some e =>
    if e.ownOffer.isNone && s.mayOffer then
      match s.cost e.call with
      | some (c, b) => if (Offer.mk c s.k).beats o then s.postOffer t c b else s
      | none => s
    else s

/-- A reassert is posted for an OWNED entry (R90). -/
def Station.reassert (s : Station) (t : Tag) : Station :=
  let loaded := s.reelHeld t
  (s.updateEntry t fun e => { e with reassert := some loaded }).post .request 63 (.take t 0 s.k loaded)

/-- The echo of an own OFFER reported to the Request Unit (R82). -/
def Station.offerEcho (s : Station) (t : Tag) : Station := s.updateEntry t Entry.markHeard

/-- An OFFER is heard (R82, R83, R90). -/
def Station.offerHeard (s : Station) (own : Bool) (t : Tag) (o : Offer) : Station :=
  let s0 := if own then s.offerEcho t else s
  match s0.req.find t with
  | none => s0
  | some e =>
    match e.state with
    | .heard =>
      let s1 := s0.updateEntry t (Entry.opened o)
      if own then s1 else s1.counterOffer t o
    | .bidding => s0.updateEntry t (Entry.bidFurther o)
    | .taking => s0
    | .owned => if own then s0 else s0.reassert t
    | .peer =>
      if s0.ownerStale e.owner then
        let s1 := s0.updateEntry t fun e => { e.opened o with owner := none }
        if own then s1 else s1.counterOffer t o
      else s0

/-! ## Timers of an entry (R84 to R87) -/

/-- An own offer that wins its window (R84). -/
def Entry.wins (k : Nat) (e : Entry) : Bool :=
  e.ownOffer.any fun o => o.heardBack && e.best == some (Offer.mk o.cost k)

/-- A TAKE is posted (R86): the entry is TAKING, with no timer, and joins the owned list; its REQUEST-WAITING prompt is
withdrawn (R101), before the TAKE is posted (DESIGN CHOICE, log 61). -/
def Station.takeCall (s : Station) (t : Tag) (cost : Nat) : Station :=
  let s1 := s.updateEntry t fun e => { e with state := .taking, phase := .none, hold := false, rival := false }
  let s2 := { s1 with req := { s1.req with owned := s1.req.owned ++ [t] } }
  (s2.withdrawWaiting t).post .request 63 (.take t cost s.k false)

/-- The offer window of an entry expires (R84). -/
def Station.windowExpired (s : Station) (t : Tag) : Station :=
  match s.req.find t with
  | none => s
  | some e =>
    if e.phase ≠ .window then s
    else if e.state = .bidding then
      match e.ownOffer with
      | some o =>
        if e.wins s.k && s.fit && (s.cost e.call).isSome then s.takeCall t o.cost
        else s.updateEntry t fun e => { e with phase := .takeWait }
      | none => s.updateEntry t fun e => { e with phase := .takeWait }
    else s.updateEntry t fun e => { e with phase := .none }

/-- The take wait of an entry expires (R85). -/
def Station.takeWaitExpired (s : Station) (t : Tag) : Station :=
  match s.req.find t with
  | none => s
  | some e =>
    if e.phase = .takeWait ∧ e.state = .bidding then (s.endOffer t).updateEntry t Entry.toHeard else s

/-- The entry as its hold ends (R87). -/
def Entry.toOwned (e : Entry) : Entry :=
  { e with state := .owned, hold := false, rival := false, estimate := e.ownOffer.map (·.base) }

/-- The take hold of an entry ends (R87, R92). -/
def Station.holdEnded (s : Station) (t : Tag) : Station :=
  match s.req.find t with
  | none => s
  | some e =>
    if e.state = .taking ∧ e.hold = true then
      let s1 := s.updateEntry t Entry.toOwned
      let s2 := if s1.req.active = none then s1.handOver t else s1
      if e.rival then s2.reassert t else s2
    else s

/-! ## Hearing a TAKE (R87 to R91) -/

/-- One claim beats another (R88). -/
def Claim.beats (a b : Claim) : Bool :=
  if a.cost = 0 then
    if b.cost = 0 then (if a.loaded = b.loaded then decide (a.index < b.index) else a.loaded) else true
  else if b.cost = 0 then false
  else (Offer.mk a.cost a.index).beats (Offer.mk b.cost b.index)

/-- The echo of an own first TAKE starts the hold of a TAKING entry (R87). -/
def Station.takeEcho (s : Station) (t : Tag) : Station :=
  s.updateEntry t fun e => if e.state = .taking then { e with hold := true } else e

/-- The station yields a TAKING entry (R89). -/
def Station.yieldTo (s : Station) (t : Tag) (o : Owner) : Station := (s.setPeer t o).leaveOwned t

/-- The own offer of a TAKING entry beats a rival's (R89). -/
def Entry.beatsRival (k : Nat) (c : Claim) (e : Entry) : Bool :=
  e.ownOffer.any fun o => (Offer.mk o.cost k).beats (Offer.mk c.cost c.index)

/-- An OWNED request is lost to a peer's reassert, no reel held (R91). The Sequencer gives it up before the NEXT request is
handed over. -/
def Station.loseOwned (s : Station) (t : Tag) (o : Owner) : Station :=
  ((s.setPeer t o).dropRequest t).leaveOwned t

/-- A peer's TAKE for an own OWNED entry (R90, R91). A reassert of the own kind and the own index, which neither beats, is taken as one
that beats the own (DESIGN CHOICE, log 60). -/
def Station.settleOwned (s : Station) (t : Tag) (e : Entry) (o : Owner) : Station :=
  if o.claim.cost ≠ 0 then s.reassert t
  else
    let held := s.reelHeld t
    if (Claim.mk 0 s.k held).beats o.claim then s.reassert t
    else if !held then s.loseOwned t o
    else if e.reassert = some true then s
    else s.reassert t

/-- A TAKE heard from a peer (R88 to R91). -/
def Station.takeHeard (s : Station) (t : Tag) (o : Owner) : Station :=
  match s.req.find t with
  | none => s
  | some e =>
    match e.state with
    | .heard => s.setPeer t o
    | .bidding => s.setPeer t o
    | .taking =>
      if o.claim.cost ≠ 0 ∧ e.beatsRival s.k o.claim then s.updateEntry t fun e => { e with rival := true }
      else s.yieldTo t o
    | .owned => s.settleOwned t e o
    | .peer =>
      if e.owner.all fun w => w.addr == o.addr || o.claim.beats w.claim then
        s.updateEntry t fun e => { e with owner := some o }
      else s

/-! ## Completion and re-opening (R93, R96 to R98) -/

/-- The own DONE echo removes an OWNED entry (R93). -/
def Station.ownDone (s : Station) (t : Tag) : Station :=
  if s.req.owns t then (s.removeEntry t).leaveOwned t else s

/-- A DONE heard from a peer (R96). -/
def Station.peerDone (s : Station) (t : Tag) : Station :=
  match s.req.find t with
  | none => s
  | some e =>
    match e.state with
    | .taking => (s.removeEntry t).leaveOwned t
    | .owned => if s.pickDone t then s else ((s.removeEntry t).dropRequest t).leaveOwned t
    | _ => s.removeEntry t

/-- The entry is PEER with an owner address. -/
def Entry.ownedBy (addr : Nat) (e : Entry) : Bool := e.state == .peer && e.owner.any fun o => o.addr == addr

/-- The entry back in HEARD when a peer owned it; its place and arrival second stay (R97). -/
def Entry.reopened (addr : Nat) (e : Entry) : Entry := if e.ownedBy addr then e.toHeard else e

/-- The entries a peer owns return to HEARD; a rescan point when there was one (R97). -/
def Station.reopen (s : Station) (addr : Nat) : Station :=
  if s.req.table.any (Entry.ownedBy addr) then
    { s with req := { s.req with table := s.req.table.map (Entry.reopened addr) } }.rescanPoint
  else s

/-! ## Rescans (R94, R95) -/

/-- The HEARD entries in the order of a rescan. -/
def RequestUnit.rescanOrder (r : RequestUnit) : List Entry :=
  let h := r.table.filter fun e => e.state == .heard
  h.filter (fun e => e.call.urgent) ++ h.filter (fun e => !e.call.urgent)

/-- The entries offered on while capacity remains (R95). A place freed by an OFFER dropped at its posting is not used
again in the same rescan (R81, log 20). -/
def Station.rescanEntries (s : Station) : Nat → List Entry → Station
  | 0, _ => s
  | _, [] => s
  | n + 1, e :: es =>
    match s.cost e.call with
    | some (c, b) => (s.postOffer e.call.tag c b).rescanEntries n es
    | none => s.rescanEntries (n + 1) es

/-- The rescan of the rescan points reached in the event (R94). -/
def Station.doRescan (s : Station) : Station :=
  if s.req.rescan then
    let s1 := { s with req := { s.req with rescan := false } }
    if s1.fit then s1.rescanEntries s1.req.capacity s1.req.rescanOrder else s1
  else s

/-! ## Ageing and waiting calls (R99 to R101) -/

/-- The entry is aged out (R99). -/
def Entry.aged (now : Nat) (e : Entry) : Bool :=
  (e.state == .heard || e.state == .peer) && decide (e.arrival + 1800 ≤ now)

/-- Every aged entry is removed (R99), in table order (DESIGN CHOICE, log 66). -/
def Station.ageOut (s : Station) : Station :=
  (s.req.table.filter (Entry.aged s.now)).foldl (fun s e => s.removeEntry e.call.tag) s

/-- REQUEST-WAITING is due for the entry (R100). -/
def Entry.waitingDue (now k : Nat) (e : Entry) : Bool :=
  e.state == .heard && decide (e.arrival + 120 + k ≤ now) && !e.noticed && !e.raisedHere

/-- REQUEST-WAITING is raised for an entry; a refused raise sets no mark (R100). -/
def Station.raiseWaiting (s : Station) (e : Entry) : Station :=
  match s.raise .requestWaiting { PromptFields.none with tag := some e.call.tag, volume := some e.call.volume } with
  | (s1, some num) => s1.updateEntry e.call.tag fun e => { e with raisedHere := true, prompt := some num }
  | (s1, none) => s1

/-- Every due entry is raised for (R100), in table order (DESIGN CHOICE, log 66). -/
def Station.raiseAllWaiting (s : Station) : Station :=
  (s.req.table.filter (Entry.waitingDue s.now s.k)).foldl Station.raiseWaiting s

/-- A peer's REQUEST-WAITING PROMPT marks its entry (R101). -/
def Station.noticeWaiting (s : Station) (t : Tag) : Station := s.updateEntry t fun e => { e with noticed := true }

end Sys2Proof.Machine
end

