-- ==== Sys2Proof/Machine/Control.lean ====
section
/-! DEFINITION. Station Control's shared operations: the configuration block, starts, OFFLINE, order index, STATUS; the end
of an event and the handing out of a received frame (R10, R11, R30 to R32, R38, R40 to R61). -/

namespace Sys2Proof.Machine

/-! ## The end of an event -/

/-- What comes last within an event (log 21): the Sequencer's next step (R130), the rescan of the rescan points reached
(R94), the postings after drops (R164, R165). -/
def Station.finish (s : Station) : Station := s.chooseNext.doRescan.repostDropped

/-! ## The configuration block (R42 to R46) -/

/-- The byte at a place of the block. -/
def blockByte (b : List Byte) (i : Nat) : Nat := (b.getD i 0).toNat

/-- A two-byte field of the block, high byte first. -/
def blockWord (b : List Byte) (i : Nat) : Nat := blockByte b i * 256 + blockByte b (i + 1)

/-- A value held between two ends. -/
def clamp (lo hi x : Nat) : Nat := max lo (min x hi)

/-- The fields of the block after the substitutions of R45. -/
def readConfig (b : List Byte) : ConfigValues :=
  { address := blockByte b 0, n := blockByte b 1,
    divisor := if blockByte b 2 = 0 then 256 else blockByte b 2,
    railLo := blockWord b 3, railHi := blockWord b 5,
    H := clamp 100 2000 (blockWord b 7), G := clamp 0 1000 (blockWord b 9),
    V := if blockByte b 11 = 0 then 1 else blockByte b 11, R := blockByte b 12,
    K := clamp 0 1023 (blockWord b 13), N := clamp 0 1023 (blockWord b 15), B := clamp 0 2047 (blockWord b 17),
    windowPos := blockWord b 19, windowEast := (b.getD 21 0).getLsbD 4, windowTier := blockByte b 21 % 16,
    clean := blockByte b 22 }

/-- The sum of the bytes modulo 256 (R44). -/
def blockSum (b : List Byte) : Nat := (b.map BitVec.toNat).sum % 256

/-- The block passes R44: 32 bytes, sum 0, address 1-24, n 2-8, rail_lo below rail_hi. -/
def blockGood (b : List Byte) : Bool :=
  decide (b.length = 32) && decide (blockSum b = 0) && stationAddr (blockByte b 0) &&
    decide (2 ≤ blockByte b 1) && decide (blockByte b 1 ≤ 8) && decide (blockWord b 3 < blockWord b 5)

/-- The rail holds n carriages at one pitch apart (R46). -/
def ConfigValues.railFits (c : ConfigValues) : Bool := decide ((c.n - 1) * c.D ≤ c.railHi - c.railLo)

/-! ## OFFLINE and seeding (R22, R59) -/

/-- The backoff register seeded with the address and an order index, 0 if none was learnt (R22). -/
def Station.seed (s : Station) : Station := { s with liu := { s.liu with backoff := backoffSeed s.cv.address s.k } }

/-- Station Control in OFFLINE: the chain is watched and driven no more, no timer runs (R50, R51, R59). -/
def Control.offlineFor (c : Control) (r : OfflineReason) : Control :=
  { c with mode := .offline, offline := r, armed := false, pulses := 0, orderingTimer := none, learningTimer := none,
           burstTimer := none }

/-- The station enters OFFLINE (R59): the LIU's queues are emptied, the tables, records and prompts go to their reset
values, BEACON is released; the retained store, the counters and the index stay. The next prompt number returns to 0 with the
prompt list (DESIGN CHOICE, log 53). -/
def Station.enterOffline (s : Station) (r : OfflineReason) : Station :=
  { s with ctl := s.ctl.offlineFor r, liu := s.liu.emptied, req := RequestUnit.reset, span := SpanUnit.reset,
           seq := Sequencer.reset, prm := PromptUnit.reset, acc := AccRecord.resetAll }

/-! ## Order index (R48 to R53) -/

/-- The station takes its order index and enters LEARNING (R50, R51, R53): the generator is seeded, the learning period of
3 s starts, the first burst is 10 pulse-times away, REPORT is issued. -/
def Station.takeIndex (s : Station) (index : Nat) : Station :=
  ({ s with ctl := { s.ctl with
    mode := .learning, index := some index, armed := false, pulses := 0, orderingTimer := none,
    learningTimer := some 300, burstTimer := some (.pulseTimes 10) } }.seed).issue .report .check

/-! ## READY (R57) -/

/-- DOOR is sampled on entering READY (R148). -/
def Station.sampleDoor (s : Station) : Station :=
  if s.pins.door then s.setLatch else { s with seq := { s.seq with door := DoorRecord.reset } }

/-- STORE-LOST is called for after a store clear, whose memory is then cleared (R173, R174). -/
def Station.storeLostCall (s : Station) : Station :=
  if s.store.clearedMemory then { s with store := { s.store with clearedMemory := false } }.callFor .storeLost else s

/-- The learning period ends (R57). DOOR is sampled before STORE-LOST is raised (DESIGN CHOICE, log 71). -/
def Station.enterReady (s : Station) : Station :=
  ({ s with ctl := { s.ctl with mode := .ready, learningTimer := none } }.sampleDoor).storeLostCall.rescanPoint

/-! ## STATUS (R38, R60) -/

/-- Codes of a peer report (R28): ABSENT 0, OWN 1, PARKED 2, MOVING 3, FIXED 4, STALE 5. -/
def PeerSpan.report (p : PeerSpan) : Nat :=
  if p.stale then 5 else match p.kind with | .parked => 2 | .moving => 3 | .fixed => 4

/-- The peer report of an order index (R38, R60). -/
def Station.peerReport (s : Station) (i : Nat) : Nat :=
  match s.ctl.index with
  | none => 0
  | some k =>
    if i = k then 1
    else match s.span.peers.find? fun p => p.index == i with
      | some p => p.report
      | none => 0

def LineCounters.bytes (c : LineCounters) : List Byte :=
  bytes16 c.crcErrors ++ bytes16 c.malformed ++ bytes16 c.overruns ++ bytes16 c.abortsHeard ++ bytes16 c.collisions ++
    bytes16 c.drops ++ bytes16 c.unknownKinds ++ bytes16 c.lateReplies ++ bytes16 c.callsDropped

/-- The 41 bytes of a STATUS, with the values held now (R38, R60). -/
def Station.statusBody (s : Station) : List Byte :=
  [byteOf s.ctl.mode.code, flagByte s.heldCond s.faulted false false false, byteOf s.ctl.offline.code,
   byteOf (s.ctl.index.getD 255), byteOf s.ctl.cause.code, byteOf s.req.owned.length, byteOf s.req.table.length,
   byteOf s.prm.list.length] ++
  (List.range 8).map (fun i => byteOf (s.peerReport i)) ++ s.liu.counters.bytes ++ [byteOf s.store.flags.nibble] ++
  bytes16 s.store.occLost ++ bytes16 s.store.occEstimated ++ bytes16 s.store.losses

/-! ## Handing out a frame (R11, R30 to R32, R52) -/

/-- The report that an own frame was heard back, to the block that posted it (R11, R23, R32). -/
def Station.reportEcho (s : Station) (m : Msg) : Station :=
  match m with
  | .offer t _ _ => s.offerEcho t
  | .take t cost _ _ => if cost = 0 then s else s.takeEcho t
  | .done d => s.doneEcho d
  | .span _ k lo hi fresh _ => s.spanEcho k lo hi fresh
  | .prompt p => s.promptEcho p.num p.level
  | .clear num r => s.clearEcho num r
  | _ => s

/-- A frame as it is handed out: its own mark, the sender's address and the destination's (R26, R31). -/
structure Heard where
  own : Bool
  src : Nat
  dst : Nat
  deriving DecidableEq, Repr

/-- The station takes frames of the READY and LEARNING columns (R32, R52). -/
def Station.hearing (s : Station) : Bool := s.ctl.mode == .ready || s.ctl.mode == .learning

/-- What becomes of a frame of a known kind at the head: refused whole, an own echo still reported (R30); taken by its
blocks; or given to no block in this state, an own echo still reported (R52). -/
def Station.takeFrame (s : Station) (everyState : Bool) (act : Heard → Msg → Station → Station) (e : RxEntry) : Station :=
  match accept s.cv.n e.frame with
  | some m =>
    if everyState || s.hearing then act ⟨e.own, addrOf e.frame.src, addrOf e.frame.dst⟩ m s
    else if e.own then s.reportEcho m else s
  | none =>
    if e.own then
      match readBody 256 e.frame with
      | some m => s.reportEcho m
      | none => s
    else s

/-- The head frame leaves the receive queue (R11). -/
def Station.dequeue (s : Station) : Station := { s with liu := s.liu.dequeue }

/-- The frame at the head of the receive queue, of a kind, is handed out (R11): its blocks take it whole, then it leaves
the queue. A head of another kind, or none, is left (log 3). -/
def Station.hear (s : Station) (code : Byte) (everyState : Bool) (act : Heard → Msg → Station → Station) : Station :=
  match s.liu.rxq with
  | [] => s
  | e :: _ => if s.liu.running ∧ e.frame.kind = code then (s.takeFrame everyState act e).finish.dequeue else s

/-- A frame is addressed to the station (R31). -/
def Station.addressed (s : Station) (h : Heard) : Bool := h.dst == s.cv.address

/-! ## Starts (R25, R40, R173 to R175) -/

/-- The station held in RESET (R25, R40). -/
def Station.hold (s : Station) (cause : ResetCause) : Station := Station.start .reset cause s.pins s.store s.free

/-- The store as the station leaves RESET: cleared at a power-on that finds the latch clear, kept at every other start
(R174, R175). -/
def RetainedStore.leaveReset (st : RetainedStore) (cause : ResetCause) : RetainedStore :=
  if cause = .powerOn ∧ st.valid = false then RetainedStore.cleared else st.kept

/-- The station enters CONFIG (R40). -/
def Station.enterConfig (s : Station) : Station :=
  Station.start .config s.ctl.cause s.pins (s.store.leaveReset s.ctl.cause) s.free

/-- Both supplies have failed: the contents are lost and the latch reads clear (R173); the contents are a free value
(log 14). -/
def Station.loseStore (s : Station) : Station :=
  { s with store := { Config.lostStore s.free with valid := false }, free := s.free + 1 }

/-! ## The form of a meaning -/

/-- A command's effect on the station is its next state; the queue is not touched. -/
def State.act (s : State) (f : Station → Station) : Host.Outcome State Fault Refusal := .next { s with station := f s.station }

end Sys2Proof.Machine
end

