-- ==== Sys2Proof/Machine/AccountEvents.lean ====
section
/-! DEFINITION. The meanings of the Accounting Unit's and Station Control's commands: TALLY_ASK, TALLY, PERIOD_CLOSE,
CLOSE_COMPLETE, TALLY_TAKEN, STATUS_ASK, STATUS, RESTART (R60, R61, R183, R186 to R188). -/

namespace Sys2Proof.Machine

/-- A TALLY-ASK addressed to the station is answered in READY (R188). -/
def Station.takeTallyAskFrame (h : Heard) (m : Msg) (s : Station) : Station :=
  match m with
  | .tallyAsk w first count => if s.addressed h && s.ctl.mode == .ready then s.answerTally w first count else s
  | _ => s

/-- A TALLY changes nothing: its echo is a report that changes nothing, and a peer's is given to no block (R32, R188). -/
def Station.takeTallyFrame (_ : Heard) (_ : Msg) (s : Station) : Station := s

/-- A PERIOD-CLOSE addressed to the station is taken in READY (R183). -/
def Station.takePeriodCloseFrame (h : Heard) (m : Msg) (s : Station) : Station :=
  match m with
  | .periodClose p => if s.addressed h && s.ctl.mode == .ready then s.periodClose p else s
  | _ => s

/-- A TALLY-TAKEN addressed to the station is taken in READY (R187). -/
def Station.takeTallyTakenFrame (h : Heard) (m : Msg) (s : Station) : Station :=
  match m with
  | .tallyTaken p => if s.addressed h && s.ctl.mode == .ready then s.tallyTaken p else s
  | _ => s

/-- The copy of slot 63 and the completion of the close (R184, R186), once the 64th tick event has come (log 11). A close runs in
READY alone (R183): one that a reset interrupted is discarded as the station leaves RESET (R175), and no TALLY is posted before
the station has an address (R26). -/
def Station.onCloseComplete (s : Station) : Station :=
  if s.ctl.mode = .ready ∧ s.store.closeBusy ∧ s.store.closing.lastDue = true then s.completeClose.finish else s

/-- A STATUS-ASK addressed to the station is answered with a STATUS to its sender (R60). -/
def Station.takeStatusAskFrame (h : Heard) (m : Msg) (s : Station) : Station :=
  match m with
  | .statusAsk => if s.addressed h then s.post .control h.src (.status s.statusBody) else s
  | _ => s

/-- A STATUS changes nothing (R32, R60). -/
def Station.takeStatusFrame (_ : Heard) (_ : Msg) (s : Station) : Station := s

/-- A RESTART addressed to the station resets it at once with cause RESTART (R61). -/
def Station.takeRestartFrame (h : Heard) (m : Msg) (s : Station) : Station :=
  match m with
  | .restart => if s.addressed h then s.hold .restart else s
  | _ => s

/-- TALLY_ASK (R188). -/
def execTallyAsk (s : State) : Host.Outcome State Fault Refusal := s.act fun x => x.hear 0x51 false Station.takeTallyAskFrame

/-- TALLY (R32). -/
def execTally (s : State) : Host.Outcome State Fault Refusal := s.act fun x => x.hear 0x52 false Station.takeTallyFrame

/-- PERIOD_CLOSE (R183). -/
def execPeriodClose (s : State) : Host.Outcome State Fault Refusal :=
  s.act fun x => x.hear 0x53 false Station.takePeriodCloseFrame

/-- CLOSE_COMPLETE (R186). -/
def execCloseComplete (s : State) : Host.Outcome State Fault Refusal := s.act Station.onCloseComplete

/-- TALLY_TAKEN (R187). -/
def execTallyTaken (s : State) : Host.Outcome State Fault Refusal :=
  s.act fun x => x.hear 0x54 false Station.takeTallyTakenFrame

/-- STATUS_ASK (R60). -/
def execStatusAsk (s : State) : Host.Outcome State Fault Refusal := s.act fun x => x.hear 0x61 true Station.takeStatusAskFrame

/-- STATUS (R60). -/
def execStatus (s : State) : Host.Outcome State Fault Refusal := s.act fun x => x.hear 0x62 true Station.takeStatusFrame

/-- RESTART (R61). -/
def execRestart (s : State) : Host.Outcome State Fault Refusal := s.act fun x => x.hear 0x63 true Station.takeRestartFrame

end Sys2Proof.Machine
end

