-- ==== Sys2Proof/Machine/CarriageEvents.lean ====
section
/-! DEFINITION. The meanings of the Carriage Sequencer's commands: the seven completions, COMMAND_TIMEOUT, DONE_REPOST_TIMER,
DOOR_OPEN, DOOR_CLOSE, DOOR_RAISE_TIMER (R126 to R151). -/

namespace Sys2Proof.Machine

/-- A completion row is taken: the status word must name the command in flight (R126), and the command must be the row's. -/
def Station.onCompletion (s : Station) (code : Nat) (status : Word) (f : Code → InFlight → Station → Station) : Station :=
  match s.completes code status with
  | none => s
  | some (c, cmd, s1) => (f c cmd s1).finish

/-- A TRAVEL completion is taken (R131). -/
def Station.onTravelCompletion (s : Station) (status : Word) : Station :=
  s.onCompletion 1 status fun c f s =>
    match f.cmd with
    | .travel t => s.travelDone f t c
    | _ => s

/-- A PICK completion is taken (R134). -/
def Station.onPickCompletion (s : Station) (status : Word) : Station :=
  s.onCompletion 2 status fun c f s =>
    match f.cmd with
    | .pick p => s.pickEnd f p c
    | _ => s

/-- A PLACE completion is taken (R137). -/
def Station.onPlaceCompletion (s : Station) (status : Word) : Station :=
  s.onCompletion 3 status fun c f s =>
    match f.cmd with
    | .place p => s.placeEnd f p c
    | _ => s

/-- A STOP completion is taken (R128). -/
def Station.onStopCompletion (s : Station) (status : Word) : Station :=
  if s.seq.stop.isSome && decide (statusCommand status = 7) then (s.stopEnd status).finish else s

/-- A command timer has run out: the command, or the STOP, has failed (R127, R128). -/
def Station.onCommandTimeout (s : Station) : Station :=
  match s.seq.cmd, s.seq.stop with
  | some ⟨c, p, 0, _, _⟩, _ => (s.openFault c p).finish
  | _, some ⟨0, c, p⟩ => (s.openFault c p).finish
  | _, _ => s

/-- The re-post timers that have run out (R142). -/
def Station.onDoneRepostTimer (s : Station) : Station :=
  if s.seq.doneList.any fun x => expired x.timer then s.repostDone.finish else s

/-- DOOR changes from closed to open; in READY the latch is set, unless it is set already (R148). -/
def Station.onDoorOpen (s : Station) : Station :=
  if s.pins.door then s
  else
    let s1 := { s with pins := { s.pins with door := true } }
    if s.ctl.mode = .ready ∧ s.seq.doorLatch = false then s1.setLatch.finish else s1

/-- DOOR changes from open to closed: the level alone (R148, R150). -/
def Station.onDoorClose (s : Station) : Station := { s with pins := { s.pins with door := false } }

/-- The raise timer has run out (R149). -/
def Station.onDoorRaiseTimer (s : Station) : Station :=
  if expired s.seq.door.timer then s.doorTimerEnd.finish else s

/-- TRAVEL_COMPLETION (R131). -/
def execTravelCompletion (status : Word) (s : State) : Host.Outcome State Fault Refusal :=
  s.act fun x => x.onTravelCompletion status

/-- PICK_COMPLETION (R134). -/
def execPickCompletion (status : Word) (s : State) : Host.Outcome State Fault Refusal :=
  s.act fun x => x.onPickCompletion status

/-- PLACE_COMPLETION (R137). -/
def execPlaceCompletion (status : Word) (s : State) : Host.Outcome State Fault Refusal :=
  s.act fun x => x.onPlaceCompletion status

/-- READ_LABEL_COMPLETION (R135). -/
def execReadLabelCompletion (status unreadable w1 w2 w3 : Word) (s : State) : Host.Outcome State Fault Refusal :=
  s.act fun x => x.onCompletion 4 status fun c f y => y.labelEnd f unreadable w1 w2 w3 c

/-- RING_CHECK_COMPLETION (R136). -/
def execRingCheckCompletion (status present : Word) (s : State) : Host.Outcome State Fault Refusal :=
  s.act fun x => x.onCompletion 5 status fun c f y => y.ringEnd f present c

/-- REPORT_COMPLETION (R145). -/
def execReportCompletion (status position loaded : Word) (s : State) : Host.Outcome State Fault Refusal :=
  s.act fun x => x.onCompletion 6 status fun c f y => y.reportEnd f position loaded c

/-- STOP_COMPLETION (R128). -/
def execStopCompletion (status : Word) (s : State) : Host.Outcome State Fault Refusal := s.act fun x => x.onStopCompletion status

/-- COMMAND_TIMEOUT (R127). -/
def execCommandTimeout (s : State) : Host.Outcome State Fault Refusal := s.act Station.onCommandTimeout

/-- DONE_REPOST_TIMER (R142). -/
def execDoneRepostTimer (s : State) : Host.Outcome State Fault Refusal := s.act Station.onDoneRepostTimer

/-- DOOR_OPEN (R148). -/
def execDoorOpen (s : State) : Host.Outcome State Fault Refusal := s.act Station.onDoorOpen

/-- DOOR_CLOSE (R148). -/
def execDoorClose (s : State) : Host.Outcome State Fault Refusal := s.act Station.onDoorClose

/-- DOOR_RAISE_TIMER (R149). -/
def execDoorRaiseTimer (s : State) : Host.Outcome State Fault Refusal := s.act Station.onDoorRaiseTimer

end Sys2Proof.Machine
end

