-- ==== Sys2Proof/Machine/ClaimEvents.lean ====
section
/-! DEFINITION. The meanings of the Request Unit's commands: MOUNT_CALL, DEMOUNT_CALL, OFFER, OFFER_WINDOW_EXPIRY,
TAKE_WAIT_EXPIRY, TAKE, TAKE_HOLD_END, DONE, REQUEST_AGEING, REQUEST_WAITING_DUE (R79 to R101). -/

namespace Sys2Proof.Machine

/-- A call is taken by the Request Unit, whatever its destination (R32). -/
def Station.takeCallFrame (_ : Heard) (m : Msg) (s : Station) : Station :=
  match m with
  | .call c => s.callHeard c
  | _ => s

/-- An OFFER is taken by the Request Unit (R82). -/
def Station.takeOfferFrame (h : Heard) (m : Msg) (s : Station) : Station :=
  match m with
  | .offer t cost index => s.offerHeard h.own t ⟨cost, index⟩
  | _ => s

/-- A TAKE is taken by the Request Unit: an own first one starts its hold (R87), a peer's is settled (R88 to R91). -/
def Station.takeTakeFrame (h : Heard) (m : Msg) (s : Station) : Station :=
  match m with
  | .take t cost index loaded =>
    if h.own then (if cost = 0 then s else s.takeEcho t) else s.takeHeard t ⟨h.src, ⟨cost, index, loaded⟩⟩
  | _ => s

/-- A DONE is taken by the Carriage Sequencer (own echo), the Request Unit and the Accounting Unit, in that order (R32, R93,
R96, R142); that the Request Unit comes before the Accounting Unit is the model's choice (log 21). In LEARNING the Accounting Unit
brings its drive table up to date alone (R52, R175). -/
def Station.takeDoneFrame (h : Heard) (m : Msg) (s : Station) : Station :=
  match m with
  | .done d =>
    let s1 := if h.own then (s.doneEcho d).ownDone d.tag else s.peerDone d.tag
    if s.ctl.mode = .ready then s1.accountDone h.own d else s1.driveUpdate d
  | _ => s

/-- At an advance of the seconds counter the aged entries are removed (R99). -/
def Station.onRequestAgeing (s : Station) : Station :=
  if s.hearing && s.req.table.any (Entry.aged s.now) then s.ageOut.finish else s

/-- At an advance of the seconds counter in READY, REQUEST-WAITING is raised for the due entries (R100). -/
def Station.onRequestWaitingDue (s : Station) : Station :=
  if s.ctl.mode == .ready && s.req.table.any (Entry.waitingDue s.now s.k) then s.raiseAllWaiting.finish else s

/-- The entry of a tag runs the timer of a phase (R77). -/
def Station.inPhase (s : Station) (t : Tag) (p : Phase) : Bool := (s.req.find t).any fun e => e.phase == p

/-- The offer window of a tag's entry ends (R84). -/
def Station.onOfferWindowExpiry (s : Station) (t : Tag) : Station :=
  if s.inPhase t .window then (s.windowExpired t).finish else s

/-- The take wait of a tag's entry ends (R85). -/
def Station.onTakeWaitExpiry (s : Station) (t : Tag) : Station :=
  if s.inPhase t .takeWait then (s.takeWaitExpired t).finish else s

/-- The take hold of a tag's entry ends (R87). -/
def Station.onTakeHoldEnd (s : Station) (t : Tag) : Station :=
  if (s.req.find t).any fun e => e.hold then (s.holdEnded t).finish else s

/-- MOUNT_CALL (R79). -/
def execMountCall (s : State) : Host.Outcome State Fault Refusal := s.act fun x => x.hear 0x11 false Station.takeCallFrame

/-- DEMOUNT_CALL (R79). -/
def execDemountCall (s : State) : Host.Outcome State Fault Refusal := s.act fun x => x.hear 0x12 false Station.takeCallFrame

/-- OFFER (R82). -/
def execOffer (s : State) : Host.Outcome State Fault Refusal := s.act fun x => x.hear 0x21 false Station.takeOfferFrame

/-- OFFER_WINDOW_EXPIRY (R84). -/
def execOfferWindowExpiry (ciu num : Byte) (s : State) : Host.Outcome State Fault Refusal :=
  s.act fun x => x.onOfferWindowExpiry (Tag.ofBytes ciu num)

/-- TAKE_WAIT_EXPIRY (R85). -/
def execTakeWaitExpiry (ciu num : Byte) (s : State) : Host.Outcome State Fault Refusal :=
  s.act fun x => x.onTakeWaitExpiry (Tag.ofBytes ciu num)

/-- TAKE (R88). -/
def execTake (s : State) : Host.Outcome State Fault Refusal := s.act fun x => x.hear 0x22 false Station.takeTakeFrame

/-- TAKE_HOLD_END (R87). -/
def execTakeHoldEnd (ciu num : Byte) (s : State) : Host.Outcome State Fault Refusal :=
  s.act fun x => x.onTakeHoldEnd (Tag.ofBytes ciu num)

/-- DONE (R96). -/
def execDone (s : State) : Host.Outcome State Fault Refusal := s.act fun x => x.hear 0x23 false Station.takeDoneFrame

/-- REQUEST_AGEING (R99). -/
def execRequestAgeing (s : State) : Host.Outcome State Fault Refusal := s.act Station.onRequestAgeing

/-- REQUEST_WAITING_DUE (R100). -/
def execRequestWaitingDue (s : State) : Host.Outcome State Fault Refusal := s.act Station.onRequestWaitingDue

end Sys2Proof.Machine
end

