-- ==== Sys2Proof/Machine/LineEvents.lean ====
section
/-! DEFINITION. The meanings of the aisle line's commands: LINE_BUSY, GAP_END, SYNC_PAIR_FOUND, MALFORMED_LEN, FRAMING_ERROR,
BREAK, FRAME_RECEIVED, UNKNOWN_KIND, SLOT_WAIT_END, COLLISION, BREAK_SENT_END, HEARD_BACK (R6 to R23). -/

namespace Sys2Proof.Machine

/-- The LIU changed where it runs (R1). -/
def Station.onLine (s : Station) (f : Liu → Liu) : Station := if s.liu.running then { s with liu := f s.liu } else s

/-- Space is sampled (R17), and a character that the levels since its edge complete reaches the frame assembly (R2). -/
def Liu.lineBusyAt (l : Liu) (levels : List Bool) : Liu :=
  match readChar levels with
  | .char c => l.takeChar c
  | _ => l.sampleSpace

/-- Characters taken by a receiver in HUNT or SYNC (R6). -/
def Liu.hunt (l : Liu) (chars : List Byte) : Liu := if l.receiver.inProgress then l else l.takeChars chars

/-- A LEN of 49 or more in HEADER (R7). -/
def Liu.malformedLen (l : Liu) (len : Byte) : Liu :=
  if l.receiver = .header [] ∧ 49 ≤ len.toNat then l.takeChar len else l

/-- The characters of a frame in progress up to its second CHECK character (R7, R8). -/
def Liu.frameReceived (l : Liu) (chars : List Byte) : Liu := if l.receiver.inProgress then l.takeChars chars else l

/-- A framing error that is not a break (R2, R6, R9): inside a frame it is counted as malformed, outside it is counted
nowhere; the receiver is in HUNT. Its stop bit was sampled at space (R17). -/
def Liu.framingError (l : Liu) : Liu :=
  if l.receiver.inProgress then l.sampleSpace.malformed else { l.sampleSpace with receiver := .hunt }

/-- The levels since the edge make a framing error (R2). -/
def Liu.framingErrorAt (l : Liu) (levels : List Bool) : Liu :=
  if readChar levels = .framingError then l.framingError else l

/-- The levels since the edge make a break (R2). -/
def Liu.breakAt (l : Liu) (levels : List Bool) : Liu := if readChar levels = .lineBreak then l.breakHeard else l

/-- A frame of an unknown KIND at the head of the receive queue (R11). -/
def Liu.unknownKind (l : Liu) : Liu :=
  match l.rxq with
  | e :: _ =>
    if knownKind e.frame.kind then l
    else { l with counters := { l.counters with unknownKinds := inc16 l.counters.unknownKinds } }.dequeue
  | [] => l

/-- The station's own break ends (R21); a dropped frame is reported to its poster. It stood at the head of its class, so what is
queued of its class was posted after it (R13, R20). -/
def Station.onBreakSentEnd (s : Station) : Station :=
  if s.liu.running ∧ s.liu.access = .breaking then (s.settle s.liu.breakEnd (s.liu.breakEnd.1.txq.map (·.frame))).finish else s

/-- LINE_BUSY (R17). -/
def execLineBusy (s : State) (levels : List Bool := []) : Host.Outcome State Fault Refusal :=
  s.act fun x => x.onLine fun l => l.lineBusyAt levels

/-- GAP_END (R17). -/
def execGapEnd (s : State) : Host.Outcome State Fault Refusal := s.act fun x => x.onLine Liu.gapEnd

/-- SYNC_PAIR_FOUND (R6). -/
def execSyncPairFound (chars : List Byte) (s : State) : Host.Outcome State Fault Refusal :=
  s.act fun x => x.onLine fun l => l.hunt chars

/-- MALFORMED_LEN (R7). -/
def execMalformedLen (len : Byte) (s : State) : Host.Outcome State Fault Refusal :=
  s.act fun x => x.onLine fun l => l.malformedLen len

/-- FRAMING_ERROR (R9). -/
def execFramingError (s : State) (levels : List Bool := plainFramingError) : Host.Outcome State Fault Refusal :=
  s.act fun x => x.onLine fun l => l.framingErrorAt levels

/-- BREAK (R9). -/
def execBreakHeard (s : State) (levels : List Bool := plainBreak) : Host.Outcome State Fault Refusal :=
  s.act fun x => x.onLine fun l => l.breakAt levels

/-- FRAME_RECEIVED (R8). -/
def execFrameReceived (chars : List Byte) (s : State) : Host.Outcome State Fault Refusal :=
  s.act fun x => x.onLine fun l => l.frameReceived chars

/-- UNKNOWN_KIND (R11). -/
def execUnknownKind (s : State) : Host.Outcome State Fault Refusal := s.act fun x => x.onLine Liu.unknownKind

/-- SLOT_WAIT_END (R18). -/
def execSlotWaitEnd (s : State) : Host.Outcome State Fault Refusal := s.act fun x => x.onLine Liu.startSending

/-- COLLISION (R20). -/
def execCollision (s : State) : Host.Outcome State Fault Refusal := s.act fun x => x.onLine Liu.collide

/-- BREAK_SENT_END (R21). -/
def execBreakSentEnd (s : State) : Host.Outcome State Fault Refusal := s.act Station.onBreakSentEnd

/-- HEARD_BACK (R23). -/
def execHeardBack (s : State) : Host.Outcome State Fault Refusal := s.act fun x => x.onLine Liu.heardBack

end Sys2Proof.Machine
end

