-- ==== Sys2Proof/Machine/Ordering.lean ====
section
/-! DEFINITION. The meanings of the chain's commands and of the end of learning: CHAIN_IN_ACTIVE, CHAIN_IN_RISE, CHAIN_IN_FALL,
CHAIN_IN_QUIET, ORDERING_TIMEOUT, CHAIN_OUT_BURST, LEARNING_PERIOD_END (R47 to R57). -/

namespace Sys2Proof.Machine

/-- CHAIN-IN at a level (R49). -/
def Station.chainLevel (s : Station) (active : Bool) : Station := { s with pins := { s.pins with chainIn := active } }

/-- The station enters OFFLINE with ORDER-FAILED, its generator seeded with index 0 (R22, R50). -/
def Station.orderFailed (s : Station) : Station := (s.enterOffline .orderFailed).seed

/-- CHAIN-IN has been active for 3 pulse-times: index 0 in ORDERING (R48). -/
def Station.onChainInActive (s : Station) : Station :=
  let s1 := s.chainLevel true
  if s.ctl.mode = .ordering then s1.takeIndex 0 else s1

/-- CHAIN-IN goes from inactive to active: one more pulse once armed (R49). -/
def Station.onChainInRise (s : Station) : Station :=
  if s.pins.chainIn then s
  else
    let s1 := s.chainLevel true
    if s.ctl.mode = .ordering ∧ s.ctl.armed then { s1 with ctl := { s1.ctl with pulses := s.ctl.pulses + 1 } } else s1

/-- CHAIN-IN goes from active to inactive (R49). -/
def Station.onChainInFall (s : Station) : Station := s.chainLevel false

/-- CHAIN-IN has been inactive for 10 pulse-times: the station arms, or a burst is complete (R49). -/
def Station.onChainInQuiet (s : Station) : Station :=
  if s.ctl.mode = .ordering ∧ s.pins.chainIn = false then
    if s.ctl.armed = false then { s with ctl := { s.ctl with armed := true } }
    else if s.ctl.pulses = 0 then s
    else if s.ctl.pulses < s.cv.n then s.takeIndex s.ctl.pulses
    else s.orderFailed
  else s

/-- 2 s have passed in ORDERING (R50). -/
def Station.onOrderingTimeout (s : Station) : Station :=
  if s.ctl.mode = .ordering ∧ expired s.ctl.orderingTimer then s.orderFailed else s

/-- The burst timer may have expired: a later burst's has counted down; the first one's pulse-times are counted by no command, so
that this row says when they have passed (R51, log 39). -/
def BurstWait.due : BurstWait → Bool
  | .pulseTimes _ => true
  | .ticks n => n == 0

/-- A burst of k + 1 pulses begins, the next one 1 s after its start (R51). -/
def Station.onChainOutBurst (s : Station) : Station :=
  if s.hearing ∧ (s.ctl.burstTimer.any BurstWait.due) = true then
    { s with ctl := { s.ctl with burstTimer := some (.ticks 100), burstPulses := s.k + 1 } }
  else s

/-- The learning period ends (R57). -/
def Station.onLearningPeriodEnd (s : Station) : Station :=
  if s.ctl.mode = .learning ∧ expired s.ctl.learningTimer then s.enterReady.finish else s

/-- CHAIN_IN_ACTIVE (R48). -/
def execChainInActive (s : State) : Host.Outcome State Fault Refusal := s.act Station.onChainInActive

/-- CHAIN_IN_RISE (R49). -/
def execChainInRise (s : State) : Host.Outcome State Fault Refusal := s.act Station.onChainInRise

/-- CHAIN_IN_FALL (R49). -/
def execChainInFall (s : State) : Host.Outcome State Fault Refusal := s.act Station.onChainInFall

/-- CHAIN_IN_QUIET (R49). -/
def execChainInQuiet (s : State) : Host.Outcome State Fault Refusal := s.act Station.onChainInQuiet

/-- ORDERING_TIMEOUT (R50). -/
def execOrderingTimeout (s : State) : Host.Outcome State Fault Refusal := s.act Station.onOrderingTimeout

/-- CHAIN_OUT_BURST (R51). -/
def execChainOutBurst (s : State) : Host.Outcome State Fault Refusal := s.act Station.onChainOutBurst

/-- LEARNING_PERIOD_END (R57). -/
def execLearningPeriodEnd (s : State) : Host.Outcome State Fault Refusal := s.act Station.onLearningPeriodEnd

end Sys2Proof.Machine
end

