-- ==== Sys2Proof/Machine/Power.lean ====
section
/-! DEFINITION. The meanings of the commands of supply, reset and configuration: POWER_ON, RESET_PIN, LEAVE_RESET, VDD_LOSS,
VBAK_LOSS, CONFIG_READ_COMPLETE (R40 to R46, R173 to R175). -/

namespace Sys2Proof.Machine

/-- VDD rises from absence: the station is held in RESET with cause POWER-ON (R40). -/
def Station.onPowerOn (s : Station) : Station :=
  if s.pins.vdd then s else { s with pins := { s.pins with vdd := true } }.hold .powerOn

/-- RESET# goes low with VDD present: RESET with cause RESET-PIN, unless the station is still held at a power-on (R40). -/
def Station.onResetPin (s : Station) : Station :=
  if s.pins.vdd then s.hold (if s.ctl.mode = .reset ∧ s.ctl.cause = .powerOn then .powerOn else .resetPin) else s

/-- The reset ends: the station enters CONFIG, the store is cleared or kept (R40, R174, R175). -/
def Station.onLeaveReset (s : Station) : Station :=
  if s.pins.vdd ∧ s.ctl.mode = .reset then s.enterConfig else s

/-- VDD is lost: everything outside the retained store goes (log 13), and the store too when VBAK does not hold (R173). -/
def Station.onVddLoss (s : Station) (vbak : Bool) : Station :=
  if s.pins.vdd then
    let s1 := { s with pins := { s.pins with vdd := false, vbak := vbak } }.hold s.ctl.cause
    if vbak then s1 else s1.loseStore
  else s

/-- VBAK fails: the store is lost when VDD is absent (R173). -/
def Station.onVbakLoss (s : Station) : Station :=
  if s.pins.vbak then
    let s1 := { s with pins := { s.pins with vbak := false } }
    if s.pins.vdd then s1 else s1.loseStore
  else s

/-- A good block (R45, R46): the configuration values, the LIU started with its line busy, ORDERING with its 2 s, or OFFLINE
when the rail is too short. -/
def Station.configure (s : Station) (c : ConfigValues) : Station :=
  let s1 := { s with ctl := { s.ctl with cfg := some c },
                     liu := { s.liu with running := true, divisor := c.divisor, lineBusy := true } }
  if c.railFits then { s1 with ctl := { s1.ctl with mode := .ordering, orderingTimer := some 200, armed := false, pulses := 0 } }
  else (s1.enterOffline .geometryBad).seed

/-- The 32nd byte is taken (R43 to R46). A bad block leaves the LIU stopped (R44), and its backoff register unseeded at 1, since
no address was accepted (DESIGN CHOICE, log 47). -/
def Station.onConfigRead (s : Station) (block : List Byte) : Station :=
  if s.ctl.mode = .config then
    if blockGood block then s.configure (readConfig block) else s.enterOffline .configBad
  else s

/-- POWER_ON (R40). -/
def execPowerOn (s : State) : Host.Outcome State Fault Refusal := s.act Station.onPowerOn

/-- RESET_PIN (R40). -/
def execResetPin (s : State) : Host.Outcome State Fault Refusal := s.act Station.onResetPin

/-- LEAVE_RESET (R40). -/
def execLeaveReset (s : State) : Host.Outcome State Fault Refusal := s.act Station.onLeaveReset

/-- VDD_LOSS (R173). -/
def execVddLoss (vbak : Bool) (s : State) : Host.Outcome State Fault Refusal := s.act fun x => x.onVddLoss vbak

/-- VBAK_LOSS (R173). -/
def execVbakLoss (s : State) : Host.Outcome State Fault Refusal := s.act Station.onVbakLoss

/-- CONFIG_READ_COMPLETE (R44). -/
def execConfigReadComplete (block : List Byte) (s : State) : Host.Outcome State Fault Refusal :=
  s.act fun x => x.onConfigRead block

end Sys2Proof.Machine
end

