-- ==== Sys2Proof/Machine/PromptEvents.lean ====
section
/-! DEFINITION. The meanings of the Prompt Unit's commands: PROMPT, PROMPT_CLEAR, REPLY, PROMPT_EXPIRY, PROMPT_ESCALATION,
PROMPT_RESEND (R149, R161 to R171). -/

namespace Sys2Proof.Machine

/-- A peer's PROMPT reaches the units that listen for it: REQUEST-WAITING the Request Unit, STATION-SILENT the Span Unit
(R32, R101, R123). -/
def Station.peerPrompt (s : Station) (p : PromptMsg) : Station :=
  match p.kind, p.fields.tag, p.fields.peer with
  | .requestWaiting, some t, _ => s.noticeWaiting t
  | .stationSilent, _, some a =>
    { s with span := { s.span with silent := updateSilent a (fun r => { r with heard := true }) s.span.silent } }
  | _, _, _ => s

/-- A PROMPT is taken (R32, R149, R166). -/
def Station.takePromptFrame (h : Heard) (m : Msg) (s : Station) : Station :=
  match m with
  | .prompt p =>
    let s1 := if h.own then s.promptEcho p.num p.level else s.peerPrompt p
    if p.kind = .doorOpen then s1.doorHeard h.own h.src p.num else s1
  | _ => s

/-- A PROMPT-CLEAR is taken: only an own echo changes anything (R166). -/
def Station.takeClearFrame (h : Heard) (m : Msg) (s : Station) : Station :=
  match m with
  | .clear num reason => if h.own then s.clearEcho num reason else s
  | _ => s

/-- STATION-SILENT answered: RELEASE returns the peer's calls to HEARD, and the moment is a rescan point whether one returned or not;
the raised mark stays set (R98, R124, log 69). -/
def Station.silentAnswered (s : Station) (num : Nat) (a : Answer) : Station :=
  match s.span.silent.find? fun r => r.prompt == some num with
  | none => s
  | some r =>
    let s1 := { s with span := { s.span with silent := updateSilent r.addr (fun r => { r with prompt := none }) s.span.silent } }
    if a = .release then (s1.reopen r.addr).rescanPoint else s1

/-- The raising unit is told the answer (R171). DOOR-OPEN's answer is the door release of the same REPLY (R168). -/
def Station.toldAnswer (s : Station) (e : PromptEntry) (a : Answer) : Station :=
  match e.kind with
  | .loadWindow | .cellEmpty | .serialMismatch | .ringNeeded | .slotOccupied => s.boundAnswer e.num e.kind a
  | .carriageFault => s.faultAnswer e.num a
  | .doorOpen => s
  | .handLoaded => s.handAnswer e.num
  | .railBlocked => s.railAnswered
  | .stationSilent => s.silentAnswered e.num a
  | .requestWaiting => s.forgetWaiting e.num
  | .cleanDue | .accountsFull | .storeLost => s.updateAcc e.num AccRecord.toNone

/-- A REPLY answers the SHOWN entry (R167, R168). -/
def Station.answers (s : Station) (e : PromptEntry) (num : Nat) (a : Answer) : Bool :=
  e.num == num && e.kind.allows a && (e.kind != .doorOpen || !s.pins.door)

/-- A REPLY addressed to the station is taken by the Prompt Unit (R167, R169): the station afterwards, and whether it answered
a DOOR-OPEN entry. -/
def Station.promptReply (s : Station) (num : Nat) (a : Answer) : Station × Bool :=
  match s.prm.shownEntry with
  | none => (s.countLateReply, false)
  | some e =>
    if s.answers e num a then ((s.leavePrompt num .answered).toldAnswer e a, e.kind == .doorOpen)
    else (s.countLateReply, false)

/-- The REPLY matches an entry of the door record (R31, R150). -/
def Station.doorMatch (s : Station) (h : Heard) (st num : Nat) (a : Answer) : Bool :=
  a == .cont && h.dst == st && s.seq.door.numbers.any fun d => d.addr == st && d.num == num

/-- A REPLY is taken by the Prompt Unit, when addressed to the station, and by the Carriage Sequencer, when it is a door release
(R31, R32, R150, R167), in that order (DESIGN CHOICE, log 21). -/
def Station.takeReplyFrame (h : Heard) (m : Msg) (s : Station) : Station :=
  match m with
  | .reply st num a =>
    let release := s.doorMatch h st num a
    let x := if s.addressed h && st == s.cv.address then s.promptReply num a else (s, false)
    if x.2 || release then x.1.doorRelease else x.1
  | _ => s

/-- The NOTICE entries whose time has come expire, in raise order (R161). -/
def Station.onPromptExpiry (s : Station) : Station :=
  if s.expiriesDue.isEmpty then s else (s.expiriesDue.foldl Station.expirePrompt s).finish

/-- The ACTION entries whose time has come escalate, in raise order, after the expiries of the same advance (R161, R162). -/
def Station.onPromptEscalation (s : Station) : Station :=
  if s.expiriesDue.isEmpty && !s.escalationsDue.isEmpty then (s.escalationsDue.foldl Station.escalatePrompt s).finish else s

/-- A SHOWN URGENT entry whose re-send second has come is stated again, after expiries and escalations (R161, R163). -/
def Station.onPromptResend (s : Station) : Station :=
  if s.expiriesDue.isEmpty && s.escalationsDue.isEmpty && !s.resendsDue.isEmpty then
    (s.resendsDue.foldl (fun s e => s.statePrompt e.num) s).finish
  else s

/-- PROMPT (R166). -/
def execPrompt (s : State) : Host.Outcome State Fault Refusal := s.act fun x => x.hear 0x41 false Station.takePromptFrame

/-- PROMPT_CLEAR (R165). -/
def execPromptClear (s : State) : Host.Outcome State Fault Refusal := s.act fun x => x.hear 0x42 false Station.takeClearFrame

/-- REPLY (R167). -/
def execReply (s : State) : Host.Outcome State Fault Refusal := s.act fun x => x.hear 0x43 false Station.takeReplyFrame

/-- PROMPT_EXPIRY (R161). -/
def execPromptExpiry (s : State) : Host.Outcome State Fault Refusal := s.act Station.onPromptExpiry

/-- PROMPT_ESCALATION (R162). -/
def execPromptEscalation (s : State) : Host.Outcome State Fault Refusal := s.act Station.onPromptEscalation

/-- PROMPT_RESEND (R163). -/
def execPromptResend (s : State) : Host.Outcome State Fault Refusal := s.act Station.onPromptResend

end Sys2Proof.Machine
end

