-- ==== Sys2Proof/Machine/SpanEvents.lean ====
section
/-! DEFINITION. The meanings of the Span Unit's commands: SPAN, STALE_MARK, RESTATEMENT_TIMER, WAITING_TIMER, NUDGE,
STATION_SILENT_DUE (R103, R104, R106, R116, R119, R123). -/

namespace Sys2Proof.Machine

/-- A peer's SPAN (R56, R97, R103): one of the own index is not entered, and in LEARNING sends the station OFFLINE; a fresh
one returns the sender's calls to HEARD after the Span Unit has entered it. In READY one of the own index does nothing else: no
silent-peer record ends and no reservation takes it (DESIGN CHOICE, log 63). -/
def Station.peerSpanFrame (s : Station) (src index : Nat) (kind : SpanKind) (lo hi : Nat) (fresh reassert : Bool) : Station :=
  if index = s.k ∧ s.ctl.mode = .learning then s.enterOffline .orderConflict
  else
    let s1 := if index = s.k then s else s.peerSpan src index kind lo hi reassert
    if fresh then s1.reopen src else s1

/-- A SPAN is taken by the Span Unit, the Request Unit and Station Control (R32, R52). -/
def Station.takeSpanFrame (h : Heard) (m : Msg) (s : Station) : Station :=
  match m with
  | .span index kind lo hi fresh reassert =>
    if h.own then s.spanEcho kind lo hi fresh else s.peerSpanFrame h.src index kind lo hi fresh reassert
  | _ => s

/-- A NUDGE addressed to the station is taken by the Span Unit in READY (R32, R52, R119). -/
def Station.takeNudgeFrame (h : Heard) (m : Msg) (s : Station) : Station :=
  match m with
  | .nudge west boundary requester =>
    if s.addressed h && !h.own && s.ctl.mode == .ready then s.takeNudge west boundary requester else s
  | _ => s

/-- At an advance of the seconds counter in READY, silent peers are marked stale (R104). -/
def Station.onStaleMark (s : Station) : Station :=
  if s.ctl.mode == .ready && s.span.peers.any (PeerSpan.staleDue s.now) then s.markStale.finish else s

/-- The restatement timer has run out: the own entry is posted as it stands (R106). -/
def Station.onRestatementTimer (s : Station) : Station := if expired s.span.restateTimer then s.postOwn.finish else s

/-- The WAITING timer has run out (R116, R118). -/
def Station.onWaitingTimer (s : Station) : Station :=
  if s.span.reservation = .waiting ∧ expired s.span.waitTimer then s.waitExpired.finish else s

/-- At an advance of the seconds counter in READY, STATION-SILENT is raised for every record due (R123), in the order in which the
records were made (DESIGN CHOICE, log 50). -/
def Station.onStationSilentDue (s : Station) : Station :=
  if s.ctl.mode == .ready && s.span.silent.any s.silentDue then
    (((s.span.silent.filter s.silentDue).map (·.addr)).foldl Station.raiseSilent s).finish
  else s

/-- SPAN (R103). -/
def execSpan (s : State) : Host.Outcome State Fault Refusal := s.act fun x => x.hear 0x31 false Station.takeSpanFrame

/-- STALE_MARK (R104). -/
def execStaleMark (s : State) : Host.Outcome State Fault Refusal := s.act Station.onStaleMark

/-- RESTATEMENT_TIMER (R106). -/
def execRestatementTimer (s : State) : Host.Outcome State Fault Refusal := s.act Station.onRestatementTimer

/-- WAITING_TIMER (R116). -/
def execWaitingTimer (s : State) : Host.Outcome State Fault Refusal := s.act Station.onWaitingTimer

/-- NUDGE (R119). -/
def execNudge (s : State) : Host.Outcome State Fault Refusal := s.act fun x => x.hear 0x32 false Station.takeNudgeFrame

/-- STATION_SILENT_DUE (R123). -/
def execStationSilentDue (s : State) : Host.Outcome State Fault Refusal := s.act Station.onStationSilentDue

end Sys2Proof.Machine
end

