-- ==== Sys2Proof/Machine/Timebase.lean ====
section
/-! DEFINITION. The meanings of TICK and SECONDS_ADVANCE (R41) with what comes about at them (R71, R127, R131, R184; R144,
R149, R151, R156, R164, R165, R189). -/

namespace Sys2Proof.Machine

/-- The counters run in every state after RESET (R41). -/
def Station.counting (s : Station) : Bool := s.pins.vdd && s.ctl.mode != .reset

/-- The time to the next burst at a tick event: the 1 s between bursts counts down (R41, R51). -/
def BurstWait.tick : BurstWait → BurstWait
  | .pulseTimes n => .pulseTimes n
  | .ticks n => .ticks (n - 1)

/-- Station Control's own timers at a tick event (R50, R51, R53). -/
def Control.tickTimers (c : Control) : Control :=
  { c with orderingTimer := countDown c.orderingTimer, learningTimer := countDown c.learningTimer,
           burstTimer := c.burstTimer.map BurstWait.tick }

/-- The Request Unit at a tick event: elapsed_active of an ACTIVE request, saturating at 1,048,575 (R71). -/
def RequestUnit.tickTimers (r : RequestUnit) : RequestUnit :=
  { r with elapsed := if r.active.isSome then satAdd 1048575 r.elapsed 1 else r.elapsed }

/-- A nudge record after one tick (R117). -/
def NudgeRecord.tick (n : NudgeRecord) : NudgeRecord := { n with left := n.left - 1 }

/-- The Span Unit's timers at a tick event; a nudge record lapses 5 s after its posting (R106, R116, R117). -/
def SpanUnit.tickTimers (u : SpanUnit) : SpanUnit :=
  { u with restateTimer := countDown u.restateTimer, waitTimer := countDown u.waitTimer,
           nudges := (u.nudges.map NudgeRecord.tick).filter fun n => n.left != 0 }

/-- A command in flight after one tick (R127). -/
def InFlight.tick (f : InFlight) : InFlight := { f with timer := f.timer - 1 }

/-- An outstanding STOP after one tick (R127). -/
def StopRecord.tick (x : StopRecord) : StopRecord := { x with timer := x.timer - 1 }

/-- A DONE list record after one tick (R142). -/
def DoneRecord.tick (d : DoneRecord) : DoneRecord := { d with timer := countDown d.timer }

/-- The Sequencer's timers at a tick event; a refused move is asked again (R127, R131, R142, R149). -/
def Sequencer.tickTimers (q : Sequencer) : Sequencer :=
  { q with cmd := q.cmd.map InFlight.tick, stop := q.stop.map StopRecord.tick,
           door := { q.door with timer := countDown q.door.timer }, doneList := q.doneList.map DoneRecord.tick,
           moveRefused := false }

/-- Every timer given in ticks or seconds, and the close in progress, at one tick event (R41, R184). -/
def Station.tickTimers (s : Station) : Station :=
  { s with ctl := s.ctl.tickTimers, req := s.req.tickTimers, span := s.span.tickTimers, seq := s.seq.tickTimers,
           store := s.store.tickClose }

/-- The tick event at which the seconds counter advances (R41): the drop reports become due and the refused or wanted raises
are made again (R144, R149, R151, R164, R165, R189). What is WANTED at its beginning is raised: a prompt that one of these raises
displaces waits for the next advance (R189). -/
def Station.secondsAdvance (s : Station) : Station :=
  let s1 := s.tickTimers
  ({ s1 with ctl := { s1.ctl with tick := 0, second := satAdd 4294967295 s.ctl.second 1 } }.advanceDrops.retryRaises.raiseWanted
    s.wantedRaises).finish

/-- Any other tick event (R41). -/
def Station.plainTick (s : Station) : Station :=
  let s1 := s.tickTimers
  { s1 with ctl := { s1.ctl with tick := s.ctl.tick + 1 } }.finish

/-- One advance of the tick counter (R41). -/
def Station.onTick (s : Station) : Station :=
  if s.counting then (if 99 ≤ s.ctl.tick then s.secondsAdvance else s.plainTick) else s

/-- The tick counter wraps from 99 to 0 (R41); at any other count no wrap occurs (log 7). -/
def Station.onSecondsAdvance (s : Station) : Station := if s.counting && decide (99 ≤ s.ctl.tick) then s.secondsAdvance else s

/-- TICK (R41). -/
def execTick (s : State) : Host.Outcome State Fault Refusal := s.act Station.onTick

/-- SECONDS_ADVANCE (R41). -/
def execSecondsAdvance (s : State) : Host.Outcome State Fault Refusal := s.act Station.onSecondsAdvance

end Sys2Proof.Machine
end

