-- ==== Sys2Proof/Machine/Dispatch.lean ====
section
/-! DEFINITION. One arm for each command: its meaning. -/

namespace Sys2Proof.Machine

def exec (i : Instr) (s : State) : Host.Outcome State Fault Refusal :=
  match i with
  | .powerOn => Sys2Proof.Machine.execPowerOn s
  | .resetPin => Sys2Proof.Machine.execResetPin s
  | .leaveReset => Sys2Proof.Machine.execLeaveReset s
  | .vddLoss vbak => Sys2Proof.Machine.execVddLoss vbak s
  | .configReadComplete block => Sys2Proof.Machine.execConfigReadComplete block s
  | .tick => Sys2Proof.Machine.execTick s
  | .secondsAdvance => Sys2Proof.Machine.execSecondsAdvance s
  | .lineBusy levels => Sys2Proof.Machine.execLineBusy s levels
  | .gapEnd => Sys2Proof.Machine.execGapEnd s
  | .malformedLen len => Sys2Proof.Machine.execMalformedLen len s
  | .framingError levels => Sys2Proof.Machine.execFramingError s levels
  | .breakHeard levels => Sys2Proof.Machine.execBreakHeard s levels
  | .frameReceived chars => Sys2Proof.Machine.execFrameReceived chars s
  | .unknownKind => Sys2Proof.Machine.execUnknownKind s
  | .slotWaitEnd => Sys2Proof.Machine.execSlotWaitEnd s
  | .collision => Sys2Proof.Machine.execCollision s
  | .breakSentEnd => Sys2Proof.Machine.execBreakSentEnd s
  | .heardBack => Sys2Proof.Machine.execHeardBack s
  | .chainInActive => Sys2Proof.Machine.execChainInActive s
  | .chainInRise => Sys2Proof.Machine.execChainInRise s
  | .chainInQuiet => Sys2Proof.Machine.execChainInQuiet s
  | .orderingTimeout => Sys2Proof.Machine.execOrderingTimeout s
  | .chainOutBurst => Sys2Proof.Machine.execChainOutBurst s
  | .learningPeriodEnd => Sys2Proof.Machine.execLearningPeriodEnd s
  | .mountCall => Sys2Proof.Machine.execMountCall s
  | .demountCall => Sys2Proof.Machine.execDemountCall s
  | .offer => Sys2Proof.Machine.execOffer s
  | .offerWindowExpiry ciu num => Sys2Proof.Machine.execOfferWindowExpiry ciu num s
  | .takeWaitExpiry ciu num => Sys2Proof.Machine.execTakeWaitExpiry ciu num s
  | .take => Sys2Proof.Machine.execTake s
  | .takeHoldEnd ciu num => Sys2Proof.Machine.execTakeHoldEnd ciu num s
  | .done => Sys2Proof.Machine.execDone s
  | .requestAgeing => Sys2Proof.Machine.execRequestAgeing s
  | .requestWaitingDue => Sys2Proof.Machine.execRequestWaitingDue s
  | .span => Sys2Proof.Machine.execSpan s
  | .staleMark => Sys2Proof.Machine.execStaleMark s
  | .restatementTimer => Sys2Proof.Machine.execRestatementTimer s
  | .waitingTimer => Sys2Proof.Machine.execWaitingTimer s
  | .nudge => Sys2Proof.Machine.execNudge s
  | .stationSilentDue => Sys2Proof.Machine.execStationSilentDue s
  | .prompt => Sys2Proof.Machine.execPrompt s
  | .promptClear => Sys2Proof.Machine.execPromptClear s
  | .reply => Sys2Proof.Machine.execReply s
  | .promptExpiry => Sys2Proof.Machine.execPromptExpiry s
  | .promptEscalation => Sys2Proof.Machine.execPromptEscalation s
  | .promptResend => Sys2Proof.Machine.execPromptResend s
  | .travelCompletion status => Sys2Proof.Machine.execTravelCompletion status s
  | .pickCompletion status => Sys2Proof.Machine.execPickCompletion status s
  | .placeCompletion status => Sys2Proof.Machine.execPlaceCompletion status s
  | .readLabelCompletion status unreadable w1 w2 w3 => Sys2Proof.Machine.execReadLabelCompletion status unreadable w1 w2 w3 s
  | .ringCheckCompletion status present => Sys2Proof.Machine.execRingCheckCompletion status present s
  | .reportCompletion status position loaded => Sys2Proof.Machine.execReportCompletion status position loaded s
  | .stopCompletion status => Sys2Proof.Machine.execStopCompletion status s
  | .commandTimeout => Sys2Proof.Machine.execCommandTimeout s
  | .doneRepostTimer => Sys2Proof.Machine.execDoneRepostTimer s
  | .doorOpen => Sys2Proof.Machine.execDoorOpen s
  | .doorRaiseTimer => Sys2Proof.Machine.execDoorRaiseTimer s
  | .tallyAsk => Sys2Proof.Machine.execTallyAsk s
  | .tally => Sys2Proof.Machine.execTally s
  | .periodClose => Sys2Proof.Machine.execPeriodClose s
  | .closeComplete => Sys2Proof.Machine.execCloseComplete s
  | .tallyTaken => Sys2Proof.Machine.execTallyTaken s
  | .statusAsk => Sys2Proof.Machine.execStatusAsk s
  | .status => Sys2Proof.Machine.execStatus s
  | .restart => Sys2Proof.Machine.execRestart s
  | .doorClose => Sys2Proof.Machine.execDoorClose s
  | .syncPairFound chars => Sys2Proof.Machine.execSyncPairFound chars s
  | .chainInFall => Sys2Proof.Machine.execChainInFall s
  | .vbakLoss => Sys2Proof.Machine.execVbakLoss s

end Sys2Proof.Machine
end

