-- ==== Sys2Proof/Safety.lean ====
section
/-! DEFINITION. What the statements speak of: the invariants of the LIU, the request table, the prompt list, the retained
store and the carriage; the part of the station that the end of an event leaves alone; the messages a station may send. -/

namespace Sys2Proof.Machine

/-! ## Invariants -/

/-- Every URGENT frame stands ahead of every NORMAL one (R13). -/
def classOrdered : List TxEntry → Prop
  | [] => True
  | x :: xs => (x.frame.urgent = false → ∀ y ∈ xs, y.frame.urgent = false) ∧ classOrdered xs

/-- The sending order of R13: the frame in transmission stays at the head whatever its class. -/
def Liu.ordered (l : Liu) : Prop := classOrdered (if l.access = .sending then l.txq.tail else l.txq)

/-- The capacities and figures of the LIU: receive queue of 4 (R10), transmit queue of 6 in sending order (R13), one SPAN
in the queue and nothing but a SPAN in the held place (R15), 0 to 8 collisions and a window of 8, 16, 32 or 64 (R12), a backoff register that never reads 0 (R22). -/
def Liu.Ok (l : Liu) : Prop :=
  l.rxq.length ≤ 4 ∧ l.txq.length ≤ 6 ∧ l.ordered ∧ (l.txq.filter fun e => e.frame.isSpan).length ≤ 1 ∧
    (∀ f, l.heldSpan = some f → f.isSpan = true) ∧
    (∀ e ∈ l.txq, e.collisions ≤ 8 ∧ (e.window = 8 ∨ e.window = 16 ∨ e.window = 32 ∨ e.window = 64)) ∧ l.backoff ≠ 0

/-- The request table holds at most 16 entries, no two with the same tag (R77). -/
def RequestUnit.Ok (r : RequestUnit) : Prop := r.table.length ≤ 16 ∧ (r.table.map fun e => e.call.tag).Nodup

/-- BEACON is driven active exactly while an URGENT entry is in the list (R172). -/
def PromptUnit.Ok (p : PromptUnit) : Prop := p.beacon = p.list.any fun e => e.level == .urgent

/-- The counts of an account slot: widths, and ring and assisted mounts no greater than mounts (R176). -/
def Slot.Ok (x : Slot) : Prop :=
  x.mounts ≤ 65535 ∧ x.ring ≤ x.mounts ∧ x.assisted ≤ x.mounts ∧ x.seconds ≤ 16777215

/-- The live account table: slots 0-62 and the overflow slot of account 4095 (R176). -/
def AccountTable.Ok (t : AccountTable) : Prop :=
  t.slots.length = 63 ∧ (∀ x ∈ t.slots, x.Ok) ∧ t.overflow.account = some 4095 ∧ t.overflow.Ok

/-- The retained store while its latch says the contents are good: account tables (R176), at most 8 pending increments
(R185), 32 drive records (R179), 16-bit counts (R190). -/
def RetainedStore.Ok (st : RetainedStore) : Prop :=
  st.valid = true →
    st.table.Ok ∧ (∀ x ∈ st.snapshot.records, x.Ok) ∧ st.pendingIncs.length ≤ 8 ∧ st.drives.length = 32 ∧
      st.occLost ≤ 65535 ∧ st.occEstimated ≤ 65535 ∧ st.losses ≤ 65535

/-- A TRAVEL in flight has its grant, unless a STOP was issued for it (R110, R128). -/
def Station.TravelOk (s : Station) : Prop :=
  s.seq.travelling = true → s.span.reservation = .granted ∨ (s.seq.cmd.any fun f => f.causes.isSome) = true

/-! ## The end of an event -/

/-- Two stations agree in what the end of an event never changes: supplies and levels, Station Control, the retained store, the
free counter, and the LIU's receiving side. -/
def Station.SameBase (a b : Station) : Prop :=
  b.pins = a.pins ∧ b.ctl = a.ctl ∧ b.store = a.store ∧ b.free = a.free ∧ b.liu.running = a.liu.running ∧
    b.liu.divisor = a.liu.divisor ∧ b.liu.lineBusy = a.liu.lineBusy ∧ b.liu.receiver = a.liu.receiver ∧
    b.liu.rxq = a.liu.rxq

/-- Nothing is owed at the end of an event: a carriage command is in flight, no rescan point was reached, and no dropped
PROMPT or PROMPT-CLEAR is due to be posted again. -/
def Station.Quiet (s : Station) : Prop :=
  s.seq.cmd.isSome = true ∧ s.req.rescan = false ∧ (∀ e ∈ s.prm.list, e.drop ≠ .due) ∧ ∀ c ∈ s.prm.clears, c.drop ≠ .due

/-! ## Frames handed out (R11, R30) -/

/-- The head of the receive queue of a running LIU is a frame that passes the acceptance checks with this message, own mark,
sender and destination; `rest` waits behind it (R10, R11, R30). -/
def Station.Hands (s : Station) (h : Heard) (m : Msg) (rest : List RxEntry) : Prop :=
  s.liu.running = true ∧ ∃ f, s.liu.rxq = ⟨f, h.own⟩ :: rest ∧ accept s.cv.n f = some m ∧ addrOf f.src = h.src ∧
    addrOf f.dst = h.dst

/-! ## Messages in range (R27 to R30) -/

def Tag.Ok (t : Tag) : Prop := ciuAddr t.ciu = true ∧ t.num ≤ 255

def Place.Ok (p : Place) : Prop := p.pos ≤ 65535 ∧ p.tier ≤ 15

/-- The fields of a call in range: a mount or clean has a source place, a demount a return place and no ring (R33). -/
def Call.Ok (c : Call) : Prop :=
  c.tag.Ok ∧ serialOk c.volume = true ∧ c.account ≤ 4094 ∧ c.driveNo ≤ 31 ∧ c.drive.Ok ∧ c.drive.window = false ∧
    (if c.kind = .demount then c.source = none ∧ c.ring = false ∧ ∃ p, c.ret = some p ∧ p.Ok
     else c.ret = none ∧ ∃ p, c.source = some p ∧ p.Ok)

def Done.Ok (d : Done) : Prop :=
  d.tag.Ok ∧ resultAllowed d.kind d.result = true ∧ d.driveNo ≤ 31 ∧ serialOk d.volume = true ∧ d.account ≤ 4094

def PromptMsg.Ok (p : PromptMsg) : Prop :=
  p.num ≤ 255 ∧ p.fields.fits p.kind = true ∧ p.fields.inRange = true ∧ (∀ t ∈ p.fields.tag, t.num ≤ 255) ∧
    ∀ x ∈ p.fields.pos, x ≤ 65535

/-- A message that a station of a rail of n stations may send, with every field in its range (R29, R30). -/
def Msg.Sendable (n : Nat) : Msg → Prop
  | .offer t cost i => t.Ok ∧ 1 ≤ cost ∧ cost ≤ 65534 ∧ i < n
  | .take t cost i _ => t.Ok ∧ cost ≤ 65534 ∧ i < n
  | .done d => d.Ok
  | .span i _ lo hi _ _ => i < n ∧ lo ≤ hi ∧ hi ≤ 65535
  | .nudge _ b i => b ≤ 65535 ∧ i < n
  | .prompt p => p.Ok
  | .clear num _ => num ≤ 255
  | .tally t => t.period ≤ 65535 ∧ t.first ≤ 255 ∧ tallyRecordsOk t.which t.records = true
  | .status b => statusBodyOk n b = true
  | _ => False

/-- A DST that a frame may carry (R30). -/
def DestOk (d : Nat) : Prop := stationAddr d = true ∨ ciuAddr d = true ∨ d = 60 ∨ d = 61 ∨ d = 63

/-! ## Completions -/

/-- The command code and the status word of a completion row other than STOP_COMPLETION (R125, R126). -/
def completionRow : Instr → Option (Nat × Word)
  | .travelCompletion w => some (1, w)
  | .pickCompletion w => some (2, w)
  | .placeCompletion w => some (3, w)
  | .readLabelCompletion w _ _ _ _ => some (4, w)
  | .ringCheckCompletion w _ => some (5, w)
  | .reportCompletion w _ _ => some (6, w)
  | _ => none

/-! ## Runs -/

/-- A safe run: every step so far answered a next state, which is how `Host.Core.run` ends in a state. The 6120 has no state
in which it stops, so every run is safe. -/
def SafeRun (n : Nat) (s t : State) : Prop :=
  Host.Core.run { State := State, Fault := Fault, Refusal := Refusal, step := step, reset := State.reset } n s = .next t

end Sys2Proof.Machine
end

