-- ==== Sys2Proof/Certificates/Slice0/Obligations.lean ====
section
/-! DEFINITION. The statements for the provers. A result is an equation whose right side is the next state: the fields listed
change, every other field stays. Where an event ends with the Sequencer's next step, a rescan and postings after drops (log 21),
`Station.finish` stands in the equation; what it leaves alone and when it does nothing are statements of their own. Where a
frame is handed out, `Station.dequeue` ends the equation: the head has left the receive queue (R11). -/

open Sys2Proof Sys2Proof.Machine

/-! ## The step and the end of an event -/

/-- The step takes the command at the front of the queue and runs it with the queue's rest; every command completes: it answers a next state
whatever the state and the operands, and leaves the queue alone. -/
def Obligations.StepRunsFrontCommand : Prop :=
  (∀ (c : Instr) (rest : List Instr) (s : State), s.pending = c :: rest → step s = exec c { s with pending := rest }) ∧
  (∀ (c : Instr) (s : State), ∃ t : State, exec c s = .next t ∧ t.pending = s.pending)

/-- The end of an event changes neither supplies, Station Control, the retained store, the free counter nor the LIU's receiving side; and it
changes nothing at all where a carriage command is in flight, no rescan point was reached and no dropped PROMPT or PROMPT-CLEAR is due
(R94, R130, R164, R165; the order is the model's choice, log 21). Handing out takes the head from the receive queue; of the LIU only a
wait may then begin, where the access is GAP-WAIT (R10, R11, R18). A frame that fails an acceptance check is refused whole: it changes nothing before the event ends and leaves the receive queue (R11,
R30). So does a frame of a kind that no block takes in the station's state, where it is no own echo (R52). -/
def Obligations.EndOfEventAndHandingOut : Prop :=
  ((∀ s : Station, s.SameBase s.finish) ∧ ∀ s : Station, s.Quiet → s.finish = s) ∧
  (∀ s : Station, s.dequeue.liu.rxq = s.liu.rxq.tail ∧ { s.dequeue with liu := s.liu } = s ∧
       s.dequeue.liu.txq = s.liu.txq ∧ s.dequeue.liu.counters = s.liu.counters ∧ s.dequeue.liu.heldSpan = s.liu.heldSpan ∧
       s.dequeue.liu.receiver = s.liu.receiver ∧ s.dequeue.liu.lineBusy = s.liu.lineBusy ∧
       (s.liu.access ≠ .gapWait → s.dequeue = { s with liu := { s.liu with rxq := s.liu.rxq.tail } })) ∧
  (∀ (s : Station) (f : Frame) (rest : List RxEntry) (every : Bool) (act : Heard → Msg → Station → Station),
       s.liu.running = true → s.liu.rxq = ⟨f, false⟩ :: rest →
       accept s.cv.n f = none ∨ (every = false ∧ s.ctl.mode ≠ .ready ∧ s.ctl.mode ≠ .learning) →
         s.hear f.kind every act = s.finish.dequeue)

/-! ## 01_the_aisle_line.md -/

/-- CHECK over the digits 1 to 9 in character code is 0x29B1 (R4). What the LIU sends for a frame with a body of at most 48 bytes, another
LIU assembles as that frame, good; a sync pair found by the receiver stands before it (R3, R4, R6, R7, R8). A character is ten levels,
the start bit at space, the data bits least significant first, the stop bit at mark, and a frame's characters are sent back to back; the
receiver that samples these levels has the character. A start bit at mark is noise. A stop bit at space is a framing error where a mark
comes before 24 bit times have passed since the edge, and a break where none does (R2; that the line is watched from the stop bit on is
the model's reading, log 46). -/
def Obligations.SentFrameAssembles : Prop :=
  (crc ((List.range 9).map fun i => byteOf (49 + i)) = 0x29B1#16) ∧
  (∀ f : Frame, f.body.length ≤ 48 →
       assemble f.chars = .good f ∧ f.onLine = 0x96#8 :: 0x69#8 :: f.chars ∧ f.chars.length = f.body.length + 6 ∧
         ([0x96#8, 0x69#8].foldl huntChar .hunt = .header []) ∧
         f.levels = f.onLine.flatMap charLevels ∧ f.levels.length = 10 * (f.body.length + 8)) ∧
  (∀ b : Byte, charLevels b = [false, b.getLsbD 0, b.getLsbD 1, b.getLsbD 2, b.getLsbD 3, b.getLsbD 4, b.getLsbD 5, b.getLsbD 6,
       b.getLsbD 7, true] ∧ readChar (charLevels b) = .char b) ∧
  (∀ rest : List Bool, readChar (true :: rest) = .noise) ∧
  (∀ data rest : List Bool, data.length = 8 → rest.length = 14 →
       readChar (false :: data ++ false :: rest) = if true ∈ rest then .framingError else .lineBreak)

/-- LINE_BUSY (R2, R5, R7, R17, R19): the line is busy and a wait in SLOT-WAIT is discarded for GAP-WAIT; a character completed by the levels
is the next one of a frame in progress: the receiver is in HEADER through DST and then in BODY. GAP_END while the station neither sends
nor breaks (R7, R17, R18): a partial frame is discarded as malformed; the line is idle; and in GAP-WAIT with a frame queued and a place
free in the receive queue the generator advances once and the drawn wait begins: 0-3 slots for an URGENT head, 4 to 3 plus its window for
a NORMAL one. SYNC_PAIR_FOUND leads from HUNT or SYNC to HEADER with an empty frame in progress (R6). MALFORMED_LEN, a LEN of 49 or more,
counts a malformed frame (R7). FRAMING_ERROR and BREAK, with levels that make one, discard a frame in progress, counted as malformed and
as an abort heard, and outside a frame count nothing; a break at the station's own sending or breaking counts nothing (R9); with other
levels they change nothing (the model's choice, log 1). Every character keeps the line busy and ends a wait (R17, R19). -/
def Obligations.LineAndReceiverEvents : Prop :=
  (Receiver.hunt.inProgress = false ∧ Receiver.sync.inProgress = false ∧
     ∀ got, (Receiver.header got).inProgress = true ∧ (Receiver.body got).inProgress = true) ∧
  (∀ s : State, s.station.liu.running = true →
       let l := s.station.liu
       let busy := { l with lineBusy := true, access := match l.access with | .slotWait _ => Access.gapWait | a => a }
       let after (r : Receiver) : State := { s with station := { s.station with liu := { busy with receiver := r } } }
       (∀ levels, (∀ c, readChar levels ≠ .char c) →
         exec (.lineBusy levels) s = .next { s with station := { s.station with liu := busy } }) ∧
       (∀ c, l.receiver = .header [] → c.toNat ≤ 48 → exec (.lineBusy (charLevels c)) s = .next (after (.header [c]))) ∧
       (∀ c got, l.receiver = .header got → 1 ≤ got.length → got.length ≤ 2 →
         exec (.lineBusy (charLevels c)) s = .next (after (.header (got ++ [c])))) ∧
       (∀ c got, l.receiver = .header got → got.length = 3 →
         exec (.lineBusy (charLevels c)) s = .next (after (.body (got ++ [c])))) ∧
       (∀ c len rest, l.receiver = .body (len :: rest) → rest.length < len.toNat + 4 →
         exec (.lineBusy (charLevels c)) s = .next (after (.body (len :: rest ++ [c]))))) ∧
  (∀ s : State, s.station.liu.running = true → s.station.liu.access ≠ .sending → s.station.liu.access ≠ .breaking →
       let l := s.station.liu
       let c := if l.receiver.inProgress then
           { l.counters with malformed := min (l.counters.malformed + 1) 65535 } else l.counters
       let rx := if l.receiver.inProgress then Receiver.hunt else l.receiver
       (∀ e rest, l.txq = e :: rest → l.access = .gapWait → l.rxq.length ≤ 3 →
         exec .gapEnd s = .next { s with station := { s.station with liu := { l with
           receiver := rx, counters := c, lineBusy := false, backoff := backoffAdvance l.backoff,
           access := .slotWait (if e.frame.urgent then (backoffAdvance l.backoff).toNat % 4
             else 4 + (backoffAdvance l.backoff).toNat % e.window) } } }) ∧
       ((l.txq = [] ∨ l.access ≠ .gapWait ∨ 4 ≤ l.rxq.length) →
         exec .gapEnd s = .next { s with station := { s.station with liu := { l with
           receiver := rx, counters := c, lineBusy := false } } })) ∧
  (∀ s : State, s.station.liu.running = true →
       let l := s.station.liu
       let busy := { l with lineBusy := true, access := match l.access with | .slotWait _ => Access.gapWait | a => a }
       let bad := { l.counters with malformed := min (l.counters.malformed + 1) 65535 }
       (∀ front : List Byte, l.receiver = .hunt ∨ l.receiver = .sync → front.foldl huntChar l.receiver = .sync →
         exec (.syncPairFound (front ++ [0x69#8])) s =
           .next { s with station := { s.station with liu := { busy with receiver := .header [] } } }) ∧
       (∀ len : Byte, l.receiver = .header [] → 49 ≤ len.toNat →
         exec (.malformedLen len) s =
           .next { s with station := { s.station with liu := { busy with receiver := .hunt, counters := bad } } }) ∧
       (∀ levels, readChar levels = .framingError → exec (.framingError levels) s = .next { s with station := { s.station with liu :=
         { busy with receiver := .hunt, counters := if l.receiver.inProgress then bad else l.counters } } }) ∧
       (∀ levels, readChar levels = .lineBreak → exec (.breakHeard levels) s = .next { s with station := { s.station with liu :=
         { busy with receiver := .hunt, counters :=
           if l.receiver.inProgress = true ∧ l.access ≠ .sending ∧ l.access ≠ .breaking then
             { l.counters with abortsHeard := min (l.counters.abortsHeard + 1) 65535 } else l.counters } } }) ∧
       (∀ levels, readChar levels ≠ .framingError → exec (.framingError levels) s = .next s) ∧
       (∀ levels, readChar levels ≠ .lineBreak → exec (.breakHeard levels) s = .next s))

/-- FRAME_RECEIVED while the station does not send (R5, R7, R8, R10), whatever part of the frame the receiver has taken already: the receiver
hunts again; a frame whose CHECK agrees joins the receive queue's tail without the own mark, or is counted as an overrun when four wait;
one whose CHECK differs counts a CRC error. Its last character brought by LINE_BUSY does the same. UNKNOWN_KIND (R11): a frame at the
head whose KIND is not in the catalogue is handed to no block; it leaves the receive queue and is counted, and a wait held back by a full
queue may then be drawn (R18). -/
def Obligations.FrameReceivedAndUnknownKind : Prop :=
  (∀ (s : State) (f : Frame) (got rest : List Byte), s.station.liu.running = true → s.station.liu.access ≠ .sending →
       f.body.length ≤ 48 → rest ≠ [] →
       s.station.liu.receiver = (if got.length ≤ 3 then .header got else .body got) →
       let l := s.station.liu
       let busy := { l with lineBusy := true, access := match l.access with | .slotWait _ => Access.gapWait | a => a }
       (f.chars = got ++ rest →
         exec (.frameReceived rest) s = .next { s with station := { s.station with liu :=
           if l.rxq.length ≤ 3 then { busy with receiver := .hunt, rxq := l.rxq ++ [⟨f, false⟩] }
           else { busy with receiver := .hunt, counters := { l.counters with overruns := min (l.counters.overruns + 1) 65535 } } } }) ∧
       (∀ check : Word, check ≠ crc f.covered →
         f.covered ++ [(check >>> 8).truncate 8, check.truncate 8] = got ++ rest →
         exec (.frameReceived rest) s = .next { s with station := { s.station with liu :=
           { busy with receiver := .hunt, counters := { l.counters with crcErrors := min (l.counters.crcErrors + 1) 65535 } } } }) ∧
       (∀ c, exec (.lineBusy (charLevels c)) s = exec (.frameReceived [c]) s)) ∧
  (∀ (s : State) (e : RxEntry) (rest : List RxEntry), s.station.liu.running = true → s.station.liu.rxq = e :: rest →
       e.frame.kind ∉ knownKinds →
       exec .unknownKind s = .next { s with station := { s.station with liu := { s.station.liu with
         counters := { s.station.liu.counters with unknownKinds := min (s.station.liu.counters.unknownKinds + 1) 65535 } } }.dequeue })

/-- SLOT_WAIT_END (R17, R18) and COLLISION (R15, R20). At the end of the wait the head frame is in transmission and the line is busy. A
collision counts one, begins the break and discards a partial frame uncounted; the frame stays at the head of its class with one
collision more, or, being a SPAN with a SPAN held, is replaced by that one with no collision (at its eighth too: the model's choice,
log 72). -/
def Obligations.SendingAndCollision : Prop :=
  ∀ (s : State) (e : TxEntry) (rest : List TxEntry), s.station.liu.running = true → s.station.liu.txq = e :: rest →
    let l := s.station.liu
    let hit := { l with access := Access.breaking, lineBusy := true, receiver := Receiver.hunt,
                        counters := { l.counters with collisions := min (l.counters.collisions + 1) 65535 } }
    (∀ n, l.access = .slotWait n →
      exec .slotWaitEnd s = .next { s with station := { s.station with liu := { l with access := .sending, lineBusy := true } } }) ∧
    (∀ f, l.access = .sending → e.frame.isSpan = true → l.heldSpan = some f →
      exec .collision s = .next { s with station := { s.station with liu :=
        { hit with heldSpan := none, txq := ⟨f, .span, 0, 8, false⟩ :: rest } } }) ∧
    (∀ front back, l.access = .sending → e.frame.isSpan = false ∨ l.heldSpan = none → e.collisions < 8 → rest = front ++ back →
      (∀ x ∈ front, x.frame.urgent = true ∧ e.frame.urgent = false) →
      (∀ x xs, back = x :: xs → e.frame.urgent = true ∨ x.frame.urgent = false) →
      exec .collision s = .next { s with station := { s.station with liu :=
        { hit with txq := front ++ { e with collisions := e.collisions + 1, collided := true } :: back } } })

/-- BREAK_SENT_END (R21) with the frame that collided between `front` and `back`. Below 8 collisions it stays, a NORMAL frame with a window
of 16, 32 or 64, and the access is GAP-WAIT. At 8 it is dropped and counted, its poster is told, and the access is GAP-WAIT or, with no
frame left, IDLE. HEARD_BACK (R15, R23): the frame sent leaves the transmit queue and joins the receive queue with the own mark; a held
SPAN joins the transmit queue, behind the URGENT frames, when the frame was a SPAN; the access is GAP-WAIT with a frame queued and IDLE
without. What the poster does when it is told (R60, R81, R86, R106, R111, R117, R142, R164, R165, R188): the own offer of the frame's cost
is cleared, the entry in BIDDING while a timer runs or a best offer was heard and HEARD otherwise; a TAKING entry returns to HEARD and
leaves the owned list, and a reassert's drop changes nothing; the DONE is due again in 1 s; the move's SPAN in ASKING gives WAITING of 1 s
with the own entry the rest span, and any other SPAN is restated in 1 s; the nudge record is cleared; the SHOWN entry of the PROMPT's
number and level and the record of the PROMPT-CLEAR are marked; TALLY and STATUS are not posted again. Which record the report is of while
like frames are queued is the model's reading, log 58: an OFFER, TAKE or NUDGE posted again since is of none any more, and of equal DONEs
it is the first with no timer. -/
def Obligations.BreakEndAndHeardBack : Prop :=
  (∀ (s : State) (e : TxEntry) (front back : List TxEntry), s.station.liu.running = true → s.station.liu.access = .breaking →
       s.station.liu.txq = front ++ e :: back → e.collided = true → (∀ x ∈ front, x.collided = false) →
       let l := s.station.liu
       (e.collisions < 8 →
         exec .breakSentEnd s = .next { s with station := Station.finish { s.station with liu := { l with
           access := .gapWait,
           txq := front ++ { e with collided := false,
                                    window := if e.frame.urgent then e.window else min (8 * 2 ^ e.collisions) 64 } :: back } } }) ∧
       (8 ≤ e.collisions → e.frame.isSpan = false ∨ l.heldSpan = none →
         exec .breakSentEnd s = .next { s with station := Station.finish (Station.reportDrop { s.station with liu := { l with
           access := if front ++ back = [] then .idle else .gapWait, txq := front ++ back,
           counters := { l.counters with drops := min (l.counters.drops + 1) 65535 } } } e.frame
             ((front ++ back).map fun x => x.frame)) })) ∧
  (∀ (s : State) (e : TxEntry) (rest : List TxEntry), s.station.liu.running = true → s.station.liu.access = .sending →
       s.station.liu.txq = e :: rest → s.station.liu.rxq.length ≤ 3 →
       let l := s.station.liu
       (l.heldSpan = none ∨ e.frame.isSpan = false →
         exec .heardBack s = .next { s with station := { s.station with liu := { l with
           txq := rest, receiver := .hunt, access := if rest = [] then .idle else .gapWait, rxq := l.rxq ++ [⟨e.frame, true⟩] } } }) ∧
       (∀ f front back, e.frame.isSpan = true → l.heldSpan = some f → f.isSpan = true → rest = front ++ back →
         (∀ x ∈ front, x.frame.urgent = true) → (∀ x xs, back = x :: xs → x.frame.urgent = false) →
         exec .heardBack s = .next { s with station := { s.station with liu := { l with
           txq := front ++ ⟨f, .span, 0, 8, false⟩ :: back, heldSpan := none, receiver := .hunt, access := .gapWait,
           rxq := l.rxq ++ [⟨e.frame, true⟩] } } })) ∧
  (∀ (s : Station) (addr dst : Nat) (newer : List Frame), stationAddr addr = true → DestOk dst →
       let told (m : Msg) : Station := s.reportDrop (m.frame addr dst) newer
       let again (m : Msg) : Prop := ∃ g ∈ newer, g.kind = m.code ∧ g.dst = byteOf dst ∧ (m.code = 0x32#8 ∨ g.body.take 2 = m.body.take 2)
       let heard (e : Entry) : Entry := { e with state := .heard, phase := .none, ownOffer := none, best := none, owner := none,
                                                  hold := false, rival := false, estimate := none, reassert := none }
       (∀ t cost i, t.Ok → cost ≤ 65535 →
         let m := Msg.offer t cost i
         (again m → told m = s) ∧
         (¬ again m → told m = s.updateEntry t fun e => if e.state = .bidding ∧ e.ownOffer.map (fun o => o.cost) = some cost then
           { e with ownOffer := none, state := if e.phase = .none ∧ e.best = none then .heard else .bidding } else e)) ∧
       (∀ t cost i loaded, t.Ok → cost ≤ 65535 →
         let m := Msg.take t cost i loaded
         (again m ∨ cost = 0 ∨ (∀ e, s.req.find t = some e → e.state ≠ .taking) → told m = s) ∧
         (∀ e, ¬ again m → cost ≠ 0 → s.req.find t = some e → e.state = .taking → told m = (s.updateEntry t heard).leaveOwned t)) ∧
       (∀ d : Done, d.Ok →
         (∀ front back, s.seq.doneList = front ++ ⟨d, none⟩ :: back → (∀ r ∈ front, r ≠ ⟨d, none⟩) →
           told (.done d) = { s with seq := { s.seq with doneList := front ++ ⟨d, some 100⟩ :: back } }) ∧
         ((∀ r ∈ s.seq.doneList, r ≠ ⟨d, none⟩) → told (.done d) = s)) ∧
       (∀ i kind lo hi fresh reassert,
         (kind = .moving → s.span.reservation = .asking →
           told (.span i kind lo hi fresh reassert) = { s with span := { s.span with
             reservation := .waiting, waitTimer := some 100, firstFree := true,
             own := match s.span.rest with
               | some p => some ⟨p - s.cv.H, min (p + s.cv.H) 65535,
                   if s.seq.doorLatch || s.seq.fault.isSome || !s.cv.inBand s.k p then .fixed else .parked, false⟩
               | none => s.span.own } }) ∧
         (kind ≠ .moving ∨ s.span.reservation ≠ .asking →
           told (.span i kind lo hi fresh reassert) = { s with span := { s.span with restateTimer := some 100 } })) ∧
       (∀ west b r,
         let m := Msg.nudge west b r
         (again m → told m = s) ∧
         (¬ again m → told m = { s with span := { s.span with nudges := s.span.nudges.filter fun n => n.addr != dst } })) ∧
       (∀ p : PromptMsg, p.num ≤ 255 → told (.prompt p) = { s with prm := { s.prm with list := s.prm.list.map fun e =>
         if e.num = p.num ∧ e.shown = true ∧ e.level = p.level then { e with drop := .dropped } else e } }) ∧
       (∀ num reason, num ≤ 255 → told (.clear num reason) = s.clearDropped num (some reason)
         (newer.filter fun g => decide (g.kind = 0x42#8 ∧ g.dst = byteOf dst ∧ g.body.take 2 = (Msg.clear num reason).body)).length) ∧
       (∀ m, told (.tally m) = s) ∧ ∀ b, told (.status b) = s)

/-- Posting under the four cases of R14, with the place of R13. With 5 frames or fewer none is dropped and the frame joins as the last of its
class; with 6, a NORMAL frame is dropped; an URGENT one displaces the NORMAL frame posted most recently, which stands last, and is
dropped where the last frame is URGENT, for then none but a frame in transmission is NORMAL. Each drop is counted once, and the receiving
side is left alone. The one-SPAN rule (R15, R16): a SPAN posted while one is in transmission is held, replacing any held; a withdrawal of
a SPAN in transmission is too late and empties the held place; any other withdrawal leaves no SPAN held. -/
def Obligations.PostingAndWithdrawal : Prop :=
  (∀ (l : Liu) (b : Block) (f : Frame), l.txq.length ≤ 6 → l.ordered →
       let e : TxEntry := ⟨f, b, 0, 8, false⟩
       let counted := { l.counters with drops := min (l.counters.drops + 1) 65535 }
       let place (front back : List TxEntry) : Prop := (∀ x ∈ back, x.frame.urgent = false ∧ f.urgent = true) ∧
         (f.urgent = true → ∀ x ∈ front, x.frame.urgent = true ∨ (l.access = .sending ∧ l.txq.head? = some x))
       (l.txq.length ≤ 5 → (l.post e).2 = none ∧ (l.post e).1.counters = l.counters ∧
         ∃ front back, l.txq = front ++ back ∧ (l.post e).1.txq = front ++ e :: back ∧ place front back) ∧
       (l.txq.length = 6 → f.urgent = false → l.post e = ({ l with counters := counted }, some e)) ∧
       (l.txq.length = 6 → f.urgent = true → ∀ others x, l.txq = others ++ [x] →
         (x.frame.urgent = false → (l.post e).2 = some x ∧ (l.post e).1.counters = counted ∧
           ∃ front back, others = front ++ back ∧ (l.post e).1.txq = front ++ e :: back ∧ place front back) ∧
         (x.frame.urgent = true → l.post e = ({ l with counters := counted }, some e))) ∧
       (l.post e).1.rxq = l.rxq ∧ (l.post e).1.receiver = l.receiver ∧ (l.post e).1.lineBusy = l.lineBusy ∧
       (l.post e).1.heldSpan = l.heldSpan) ∧
  (∀ (l : Liu) (f : Frame),
       (l.spanInTransmission = true → l.postSpan f = ({ l with heldSpan := some f }, none)) ∧
       (l.spanInTransmission = true → l.withdrawSpan = ({ l with heldSpan := none }, true)) ∧
       (l.spanInTransmission = false → l.withdrawSpan.2 = false ∧ l.withdrawSpan.1.heldSpan = none ∧
         l.withdrawSpan.1.counters = l.counters ∧
         ((l.txq.filter fun e => e.frame.isSpan).length ≤ 1 →
           l.withdrawSpan.1.txq = l.txq.filter fun e => e.frame.isSpan = false)))

/-- What a frame that joins or leaves the transmit queue does to the line access (R15, R16, R18, R19). In IDLE the frame that joins leads
to GAP-WAIT, and with the line idle and a place free in the receive queue its wait is drawn at once. In SLOT-WAIT a frame that becomes
the head has a new wait drawn, and any other leaves the wait as it is; in every other state the access stays. A SPAN posted while one is
queued and not in transmission takes its place with 0 collisions and a window of 8, and a new wait is drawn where it is the head. A SPAN
withdrawn at the head has the next head's wait drawn, or leaves the access IDLE with the queue empty. -/
def Obligations.QueueMovesTheAccess : Prop :=
  ∀ (l : Liu) (b : Block) (f : Frame),
    let e : TxEntry := ⟨f, b, 0, 8, false⟩
    let next (y : Liu) (x : TxEntry) : Liu :=
      if !l.lineBusy && decide (l.rxq.length ≤ 3) then { y with
        backoff := backoffAdvance l.backoff,
        access := .slotWait (if x.frame.urgent then (backoffAdvance l.backoff).toNat % 4
          else 4 + (backoffAdvance l.backoff).toNat % x.window) }
      else { y with access := .gapWait }
    (l.access = .idle → l.txq = [] → l.post e = (next { l with txq := [e] } e, none)) ∧
    (∀ n x xs, l.access = .slotWait n → l.txq = x :: xs → l.txq.length ≤ 5 →
      (f.urgent = true → x.frame.urgent = false → l.post e = (next { l with txq := e :: x :: xs } e, none)) ∧
      (f.urgent = false ∨ x.frame.urgent = true → (l.post e).1.access = l.access ∧ (l.post e).1.backoff = l.backoff)) ∧
    (l.access = .gapWait ∨ l.access = .sending ∨ l.access = .breaking →
      (l.post e).1.access = l.access ∧ (l.post e).1.backoff = l.backoff) ∧
    (∀ front x back, l.spanInTransmission = false → l.txq = front ++ x :: back → x.frame.isSpan = true →
      (∀ u ∈ front, u.frame.isSpan = false) →
      let y := { l with txq := front ++ ⟨f, .span, 0, 8, false⟩ :: back }
      (front ≠ [] ∨ (∀ n, l.access ≠ .slotWait n) → l.postSpan f = (y, none)) ∧
      (∀ n, front = [] → l.access = .slotWait n → l.postSpan f = (next y ⟨f, .span, 0, 8, false⟩, none))) ∧
    (∀ n x xs, l.access = .slotWait n → l.txq = x :: xs → x.frame.isSpan = true →
      let y := { l with heldSpan := none, txq := xs }
      (xs = [] → l.withdrawSpan = ({ y with access := .idle }, false)) ∧
      (∀ u us, xs = u :: us → l.withdrawSpan = (next y u, false))) ∧
    (∀ x, l.access = .gapWait → l.txq = [x] → x.frame.isSpan = true →
      l.withdrawSpan = ({ l with heldSpan := none, txq := [], access := .idle }, false))

/-- Every step keeps the LIU's capacities, order and figures: 4 and 6 frames, URGENT ahead of NORMAL, one SPAN queued and nothing but a SPAN
held, at most 8 collisions, a window of 8 to 64, a backoff register that is not 0 (R10, R12, R13, R15, R22). -/
def Obligations.EveryStepKeepsTheLiu : Prop :=
  ∀ s t : State, s.station.liu.Ok → step s = .next t → t.station.liu.Ok

/-! ## 02_frame_catalogue.md -/

/-- Every frame a station sends passes the acceptance checks of every station on the rail and gives back the message it was built from, for
every value of every field; its body fits a frame (R26 to R30, R33 to R39). -/
def Obligations.SentMessageIsAccepted : Prop :=
  ∀ (n addr dst : Nat) (m : Msg), n ≤ 8 → stationAddr addr = true → DestOk dst → m.Sendable n →
    accept n (m.frame addr dst) = some m ∧ (m.frame addr dst).body.length ≤ 48 ∧ addrOf (m.frame addr dst).src = addr ∧
      addrOf (m.frame addr dst).dst = dst

/-- So do the frames of the other parties: a call from its CIU, a REPLY and a RESTART from the console, the collector's asks, closes and
takings, and a STATUS-ASK from console or collector (R29, R30, R33, R36, R37). `from` is the SRC byte, its class bit clear. -/
def Obligations.OutsideMessageIsAccepted : Prop :=
  ∀ (n dst : Nat), DestOk dst →
    let from_ (a : Nat) (m : Msg) : Frame := ⟨m.code, byteOf a, byteOf dst, m.body⟩
    (∀ c : Call, c.Ok → accept n (from_ c.tag.ciu (.call c)) = some (.call c)) ∧
    (∀ st num a, stationAddr st = true → num ≤ 255 → accept n (from_ 60 (.reply st num a)) = some (.reply st num a)) ∧
    (∀ w first count, first ≤ 255 → 1 ≤ count → count ≤ (if w = Which.drives then 8 else 4) →
      accept n (from_ 61 (.tallyAsk w first count)) = some (.tallyAsk w first count)) ∧
    (∀ p, 1 ≤ p → p ≤ 65535 → accept n (from_ 61 (.periodClose p)) = some (.periodClose p) ∧
      accept n (from_ 61 (.tallyTaken p)) = some (.tallyTaken p)) ∧
    accept n (from_ 60 .statusAsk) = some .statusAsk ∧ accept n (from_ 61 .statusAsk) = some .statusAsk ∧
    accept n (from_ 60 .restart) = some .restart ∧ accept n (from_ 61 .restart) = none

/-! ## 03_start_up_configuration_and_rail_order.md -/

/-- POWER_ON and RESET_PIN (R25, R40): the station is held in RESET with the cause, over the retained store; a pin reset during a power-on
leaves the cause POWER-ON. VDD_LOSS and VBAK_LOSS (R173): with VBAK present everything but the retained store goes and the store is kept;
without either supply the store's contents are free and the store-valid latch reads clear (what goes without VDD, and the free contents,
are the model's choice, logs 13 and 14); VBAK alone, with VDD present, loses nothing. LEAVE_RESET (R25, R40, R174, R175): CONFIG with the cause recorded, no configuration, no order index, counters at 0, the LIU stopped and
empty with its register at 1, every table, record and prompt gone, the retained store cleared at a power-on that finds the latch clear
and kept otherwise. A start that keeps the store (R174, R175): the occupancy list is emptied and counted as lost; a held snapshot whose
check word no longer agrees is marked invalid; an interrupted close is discarded, the snapshot emptied (with period
and check word 0: the model's choice, log 55), its pending increments charged in order; all else is
kept. -/
def Obligations.ResetsStartsAndSupplyLoss : Prop :=
  (∀ s : State,
       (s.station.pins.vdd = false → exec .powerOn s = .next { s with station :=
         (Station.start .reset .powerOn { s.station.pins with vdd := true } s.station.store s.station.free) }) ∧
       (s.station.pins.vdd = true → exec .resetPin s = .next { s with station :=
         (Station.start .reset (if s.station.ctl.mode = .reset ∧ s.station.ctl.cause = .powerOn then .powerOn else .resetPin)
           s.station.pins s.station.store s.station.free) })) ∧
  (∀ s : State,
       let x := s.station
       let off (vbak : Bool) : Pins := ⟨false, vbak, x.pins.door, x.pins.chainIn⟩
       (x.pins.vdd = true →
         exec (.vddLoss true) s = .next { s with station := Station.start .reset x.ctl.cause (off true) x.store x.free } ∧
         ∃ st : RetainedStore, st.valid = false ∧
           exec (.vddLoss false) s = .next { s with station := Station.start .reset x.ctl.cause (off false) st (x.free + 1) }) ∧
       (x.pins.vdd = true → x.pins.vbak = true →
         exec .vbakLoss s = .next { s with station := { x with pins := { x.pins with vbak := false } } }) ∧
       (x.pins.vdd = false → x.pins.vbak = true → ∃ st : RetainedStore, st.valid = false ∧
         exec .vbakLoss s = .next { s with station := { x with pins := off false, store := st, free := x.free + 1 } })) ∧
  (∀ s : State, s.station.pins.vdd = true → s.station.ctl.mode = .reset →
       ∃ t : Station, exec .leaveReset s = .next { s with station := t } ∧
         t.ctl.mode = .config ∧ t.ctl.cause = s.station.ctl.cause ∧ t.ctl.cfg = none ∧ t.ctl.index = none ∧
         t.ctl.offline = .none ∧ t.ctl.tick = 0 ∧ t.ctl.second = 0 ∧ t.pins = s.station.pins ∧ t.free = s.station.free ∧
         t.liu.running = false ∧ t.liu.receiver = .hunt ∧ t.liu.rxq = [] ∧ t.liu.txq = [] ∧ t.liu.heldSpan = none ∧
         t.liu.access = .idle ∧ t.liu.backoff = 1 ∧ t.liu.counters = ⟨0, 0, 0, 0, 0, 0, 0, 0, 0⟩ ∧
         t.req.table = [] ∧ t.req.owned = [] ∧ t.req.active = none ∧
         t.span.own = none ∧ t.span.peers = [] ∧ t.span.reservation = .parked ∧ t.span.rest = none ∧ t.span.fresh = true ∧
         t.seq.record = none ∧ t.seq.cmd = none ∧ t.seq.stop = none ∧ t.seq.posKnown = false ∧ t.seq.hand = .empty ∧
         t.seq.fault = none ∧ t.seq.doorLatch = false ∧ t.seq.doneList = [] ∧
         t.prm.list = [] ∧ t.prm.nextNum = 0 ∧ t.prm.clears = [] ∧ t.prm.beacon = false ∧
         (∀ r ∈ t.acc, r.status = .none ∧ r.displaced = false) ∧ t.acc.length = 34 ∧
         t.store = (if s.station.ctl.cause = .powerOn ∧ s.station.store.valid = false then RetainedStore.cleared
                    else s.station.store.kept)) ∧
  (∀ st : RetainedStore,
       let t := st.kept
       t.occupancy = [] ∧ t.occLost = min (st.occLost + st.occupancy.length) 65535 ∧ t.closeBusy = false ∧ t.drives = st.drives ∧
       t.period = st.period ∧ t.storeLost = st.storeLost ∧ t.snapHeld = st.snapHeld ∧ t.accountsFull = st.accountsFull ∧
       t.occEstimated = st.occEstimated ∧ t.losses = st.losses ∧ t.valid = st.valid ∧ t.clearedMemory = st.clearedMemory ∧
       (t.snapInvalid = true ↔ st.snapInvalid = true ∨
         (st.snapHeld = true ∧ crc (st.snapshot.records.flatMap Slot.bytes) ≠ st.snapshot.check)) ∧
       (st.closeBusy = false → t.table = st.table ∧ t.snapshot = st.snapshot ∧ t.pendingIncs = st.pendingIncs) ∧
       (st.closeBusy = true → t.table = st.pendingIncs.foldl (fun a i => (a.charge i).1) st.table ∧ t.snapshot = ⟨[], 0, 0⟩ ∧
         t.pendingIncs = []))

/-- Entering OFFLINE (R50, R51, R59): queues, tables, records and prompts are emptied, BEACON is released, the chain is driven no more and no
timer of Station Control runs; the configuration, the index, both counters of time, the line counters, the receive queue and the retained
store stay. -/
def Obligations.OfflineEntryEmpties : Prop :=
  ∀ (s : Station) (r : OfflineReason),
    let t := s.enterOffline r
    t.ctl = { s.ctl with mode := .offline, offline := r, armed := false, pulses := 0, orderingTimer := none,
                         learningTimer := none, burstTimer := none } ∧
    t.liu.txq = [] ∧ t.liu.heldSpan = none ∧ t.liu.rxq = s.liu.rxq ∧ t.liu.counters = s.liu.counters ∧
    t.liu.running = s.liu.running ∧ t.liu.backoff = s.liu.backoff ∧
    t.req.table = [] ∧ t.req.owned = [] ∧ t.span.own = none ∧ t.span.peers = [] ∧ t.prm.list = [] ∧ t.prm.clears = [] ∧
    t.prm.beacon = false ∧ t.seq.cmd = none ∧ t.seq.record = none ∧ t.seq.doneList = [] ∧ t.seq.doorLatch = false ∧
    t.pins = s.pins ∧ t.store = s.store ∧ t.free = s.free

/-- CONFIG_READ_COMPLETE with a bad block: a sum of its bytes other than 0 modulo 256, an address outside 1-24, a station count outside 2-8,
or rail_lo not below rail_hi (R44): OFFLINE with CONFIG-BAD, the LIU as it was, its backoff register not seeded (R22 alone could be read to
seed it on entering OFFLINE without an index; no address was accepted: the model's choice, log 47). CONFIG_READ_COMPLETE with a good block (R42, R44 to R46):
the configuration values with the substitutions of R45; the LIU starts with the divisor and a busy line; ORDERING with its 2 s when the
rail holds n carriages one pitch D = 2H + G apart, else OFFLINE with GEOMETRY-BAD and the generator seeded with index 0. -/
def Obligations.ConfigBlockIsRead : Prop :=
  (∀ (s : State) (b : List Byte), s.station.ctl.mode = .config → b.length = 32 →
       ((b.map BitVec.toNat).sum % 256 ≠ 0 ∨ ¬ (1 ≤ blockByte b 0 ∧ blockByte b 0 ≤ 24) ∨
         ¬ (2 ≤ blockByte b 1 ∧ blockByte b 1 ≤ 8) ∨ blockWord b 5 ≤ blockWord b 3) →
       exec (.configReadComplete b) s = .next { s with station := s.station.enterOffline .configBad }) ∧
  (∀ (s : State) (b : List Byte), s.station.ctl.mode = .config → s.station.ctl.index = none → b.length = 32 →
       (b.map BitVec.toNat).sum % 256 = 0 → 1 ≤ blockByte b 0 → blockByte b 0 ≤ 24 → 2 ≤ blockByte b 1 → blockByte b 1 ≤ 8 →
       blockWord b 3 < blockWord b 5 →
       let c : ConfigValues :=
         { address := blockByte b 0, n := blockByte b 1, divisor := if blockByte b 2 = 0 then 256 else blockByte b 2,
           railLo := blockWord b 3, railHi := blockWord b 5,
           H := max 100 (min (blockWord b 7) 2000), G := min (blockWord b 9) 1000,
           V := if blockByte b 11 = 0 then 1 else blockByte b 11, R := blockByte b 12,
           K := min (blockWord b 13) 1023, N := min (blockWord b 15) 1023, B := min (blockWord b 17) 2047,
           windowPos := blockWord b 19, windowEast := (b.getD 21 0).getLsbD 4, windowTier := blockByte b 21 % 16,
           clean := blockByte b 22 }
       let x := { s.station with ctl := { s.station.ctl with cfg := some c },
                                 liu := { s.station.liu with running := true, divisor := c.divisor, lineBusy := true } }
       ((c.n - 1) * (2 * c.H + c.G) ≤ c.railHi - c.railLo →
         exec (.configReadComplete b) s = .next { s with station := { x with ctl := { x.ctl with
           mode := .ordering, orderingTimer := some 200, armed := false, pulses := 0 } } }) ∧
       (c.railHi - c.railLo < (c.n - 1) * (2 * c.H + c.G) →
         exec (.configReadComplete b) s = .next { s with station := { x.enterOffline .geometryBad with
           liu := { (x.enterOffline .geometryBad).liu with backoff := backoffSeed c.address 0 } } }))

/-- CHAIN_IN_RISE, CHAIN_IN_FALL and CHAIN_IN_QUIET (R49): once armed, each rise counts; a fall changes the level alone; 10 quiet pulse-times
arm the station, complete a burst below n with its count as the order index, and send a count of n or more OFFLINE with ORDER-FAILED. -/
def Obligations.ChainCountsTheBurst : Prop :=
  ∀ s : State,
    (s.station.pins.chainIn = false → exec .chainInRise s = .next { s with station := { s.station with
      pins := { s.station.pins with chainIn := true },
      ctl := if s.station.ctl.mode = .ordering ∧ s.station.ctl.armed = true then
        { s.station.ctl with pulses := s.station.ctl.pulses + 1 } else s.station.ctl } }) ∧
    exec .chainInFall s = .next { s with station := { s.station with pins := { s.station.pins with chainIn := false } } } ∧
    (s.station.ctl.mode = .ordering → s.station.pins.chainIn = false →
      (s.station.ctl.armed = false →
        exec .chainInQuiet s = .next { s with station := { s.station with ctl := { s.station.ctl with armed := true } } }) ∧
      (s.station.ctl.armed = true → s.station.ctl.pulses = 0 → exec .chainInQuiet s = .next s) ∧
      (s.station.ctl.armed = true → 1 ≤ s.station.ctl.pulses → s.station.ctl.pulses < s.station.cv.n →
        exec .chainInQuiet s = .next { s with station := s.station.takeIndex s.station.ctl.pulses }) ∧
      (s.station.ctl.armed = true → 1 ≤ s.station.ctl.pulses → s.station.cv.n ≤ s.station.ctl.pulses →
        exec .chainInQuiet s = .next { s with station := (s.station.enterOffline .orderFailed).seed }))

/-- CHAIN_IN_ACTIVE and ORDERING_TIMEOUT (R48, R50) in ORDERING: 3 active pulse-times give order index 0, 2 s without an index send the
station OFFLINE with ORDER-FAILED. Taking an order index k (R22, R50, R51, R53): LEARNING with its 3 s, the generator seeded with address
times 257 plus k, the first burst 10 pulse-times away, REPORT in flight with its 100 ticks; nothing else changes. CHAIN_OUT_BURST (R51):
in LEARNING and READY a burst of k + 1 pulses begins and the next is 1 s, 100 ticks, away, once the second since the burst before has run
out; before that the row changes nothing. (The 10 pulse-times before the first burst are counted by no command: the model's choice, log
39.) -/
def Obligations.OrderIndexIsTaken : Prop :=
  (∀ s : State, s.station.ctl.mode = .ordering →
       exec .chainInActive s = .next { s with station :=
         ({ s.station with pins := { s.station.pins with chainIn := true } }).takeIndex 0 } ∧
       (s.station.ctl.orderingTimer = some 0 →
         exec .orderingTimeout s = .next { s with station := (s.station.enterOffline .orderFailed).seed })) ∧
  ((∀ (s : Station) (k : Nat), s.takeIndex k = { s with
       ctl := { s.ctl with mode := .learning, index := some k, armed := false, pulses := 0, orderingTimer := none,
                           learningTimer := some 300, burstTimer := some (.pulseTimes 10) },
       liu := { s.liu with backoff := let v := BitVec.ofNat 15 (s.cv.address * 257 + k); if v = 0 then 1 else v },
       seq := { s.seq with cmd := some ⟨.report, .check, 100, none, false⟩ } }) ∧
     (∀ (s : State) (k : Nat), s.station.ctl.mode = .learning ∨ s.station.ctl.mode = .ready → s.station.ctl.index = some k →
       s.station.ctl.burstTimer = some (.ticks 0) ∨ s.station.ctl.burstTimer = some (.pulseTimes 10) →
       exec .chainOutBurst s = .next { s with station := { s.station with ctl := { s.station.ctl with
         burstTimer := some (.ticks 100), burstPulses := k + 1 } } }) ∧
     ∀ (s : State) (n : Nat), s.station.ctl.burstTimer = some (.ticks (n + 1)) ∨ s.station.ctl.burstTimer = none →
       exec .chainOutBurst s = .next s)

/-- LEARNING_PERIOD_END (R57): READY. DOOR is sampled (R148, R149): closed, the door record is empty; open, the latch is set, the raise
timer of k seconds starts, STOP is issued for a command in flight, and the span is held. A store clear is reported once (R174, R189): its
memory is cleared and STORE-LOST is raised, its record RAISED with the number or, the raise refused, WANTED (after the sampling of DOOR:
the model's choice, log 71). Then the moment is a rescan point. In every case Station Control keeps all else. -/
def Obligations.LearningEndsInReady : Prop :=
  ∀ s : State, s.station.ctl.mode = .learning → s.station.ctl.learningTimer = some 0 →
    let c := { s.station.ctl with mode := Mode.ready, learningTimer := none }
    (∃ t : Station, exec .learningPeriodEnd s = .next { s with station := t } ∧ t.ctl = c ∧ t.pins = s.station.pins ∧
      t.liu.rxq = s.station.liu.rxq ∧ t.store = { s.station.store with clearedMemory := false }) ∧
    let x : Station := { s.station with ctl := c }
    let latched : Station := { x with seq := { x.seq with doorLatch := true, door := { x.seq.door with timer := some (100 * x.k) } } }
    let ends (y : Station) : State := { s with station := Station.finish { y with req := { y.req with rescan := true } } }
    ∀ y : Station,
      (x.pins.door = false ∧ y = { x with seq := { x.seq with door := ⟨[], false, false, none, false, none⟩ } }) ∨
        (x.pins.door = true ∧ x.seq.cmd = none ∧ y = latched.holdSpan) ∨
        (∃ f, x.pins.door = true ∧ x.seq.cmd = some f ∧ f.causes = none ∧ x.seq.stop = none ∧
          y = Station.holdSpan { latched with seq := { latched.seq with
            cmd := some { f with causes := some ⟨true, false, false⟩ }, stop := some ⟨100, f.cmd, f.purpose⟩ } }) →
      let z : Station := { y with store := { y.store with clearedMemory := false } }
      let q := z.raise .storeLost ⟨none, none, none, none, none⟩
      let noted (st : AccStatus) : Station := { q.1 with acc := q.1.acc.map fun r =>
        if r.subject = .storeLost then { r with status := st } else r }
      (x.store.clearedMemory = false → exec .learningPeriodEnd s = .next (ends y)) ∧
      (x.store.clearedMemory = true →
        (x.accStatus .storeLost ≠ .none → exec .learningPeriodEnd s = .next (ends z)) ∧
        (x.accStatus .storeLost = .none →
          (∀ num, q.2 = some num → exec .learningPeriodEnd s = .next (ends (noted (.raised num)))) ∧
          (q.2 = none → exec .learningPeriodEnd s = .next (ends (noted .wanted)))))

/-- TICK (R41, R51, R71, R106, R116, R117, R127, R131, R142, R149) at a count below 99: the tick counter advances by one, every running timer
falls by one, elapsed_active of an ACTIVE request rises, nudge records of 5 s lapse, a refused move may be asked again, a close in
progress does its work; then the event ends. TICK and SECONDS_ADVANCE at a count of 99 (R41; that both rows make the same advance is the
model's choice, log 7): the same with the tick counter back at 0 and the seconds counter advanced by one, saturating at 4,294,967,295;
nothing else of Station Control changes but its own timers, and of the retained store only a close does its work. At this advance the
drops marked before fall due (R164, R165), and the refused raises are made again, in an order that is the model's choice, log 37:
CARRIAGE-FAULT (R144), DOOR-OPEN while the latch is set and none was heard (R149), HAND-LOADED while the hand is ORPHAN and no fault
stands that was raised under R147 (R151), and in READY each prompt of the Accounting Unit that was WANTED when the advance began (R189), in
the order of their records; each is owed still where it is refused, and one that such a raise displaces waits for the next advance (R189).
(The raised mark of DOOR-OPEN is set at an accepted raise alone: the model's choice, log 74.) The event ends with the postings after drops, of which PromptTimersExpire speaks. -/
def Obligations.TimeBaseCounts : Prop :=
  let burst (w : BurstWait) : BurstWait := match w with | .pulseTimes n => .pulseTimes n | .ticks n => .ticks (n - 1)
  let ticked (x : Station) (tick second : Nat) : Station := { x with
    ctl := { x.ctl with tick := tick, second := second, orderingTimer := x.ctl.orderingTimer.map (· - 1),
                        learningTimer := x.ctl.learningTimer.map (· - 1), burstTimer := x.ctl.burstTimer.map burst },
    req := { x.req with elapsed := if x.req.active.isSome then min (x.req.elapsed + 1) 1048575 else x.req.elapsed },
    span := { x.span with
      restateTimer := x.span.restateTimer.map (· - 1), waitTimer := x.span.waitTimer.map (· - 1),
      nudges := (x.span.nudges.map fun n => NudgeRecord.mk n.addr (n.left - 1)).filter (fun n => n.left != 0) },
    seq := { x.seq with
      cmd := x.seq.cmd.map (fun f => { f with timer := f.timer - 1 }),
      stop := x.seq.stop.map (fun r => { r with timer := r.timer - 1 }),
      door := { x.seq.door with timer := x.seq.door.timer.map (· - 1) },
      doneList := x.seq.doneList.map (fun d => DoneRecord.mk d.done (d.timer.map (· - 1))), moveRefused := false },
    store := x.store.tickClose }
  let due (m : DropMark) : DropMark := if m = .none then .none else .due
  (∀ s : State, s.station.pins.vdd = true → s.station.ctl.mode ≠ .reset → s.station.ctl.tick < 99 →
       exec .tick s = .next { s with station := (ticked s.station (s.station.ctl.tick + 1) s.station.ctl.second).finish }) ∧
  (∀ (s : State) (c : Instr), (c = .tick ∨ c = .secondsAdvance) → s.station.pins.vdd = true → s.station.ctl.mode ≠ .reset →
       s.station.ctl.tick = 99 →
       let y := ticked s.station 0 (min (s.station.ctl.second + 1) 4294967295)
       let z : Station := { y with prm := { y.prm with list := y.prm.list.map (fun e => { e with drop := due e.drop }),
                                                       clears := y.prm.clears.map (fun r => { r with drop := due r.drop }) } }
       let t := (z.retryRaises.raiseWanted s.station.wantedRaises).finish
       exec c s = .next { s with station := t } ∧ t.ctl = y.ctl ∧
         t.store = s.station.store.tickClose ∧ t.pins = s.station.pins ∧ t.liu.rxq = s.station.liu.rxq ∧
         t.liu.lineBusy = s.station.liu.lineBusy ∧ t.liu.receiver = s.station.liu.receiver) ∧
  (∀ s : Station,
       let fault (y : Station) : Station := match y.seq.fault with
         | none => y
         | some f => if f.raiseOwed then
             let q := y.raise .carriageFault ⟨if f.noTag then none else y.req.active, none, some (y.seq.pos.getD 0), none, none⟩
             { q.1 with seq := { q.1.seq with fault := some { f with prompt := q.2, raiseOwed := q.2.isNone } } }
           else y
       let door (y : Station) : Station := if y.seq.door.raiseOwed && y.seq.doorLatch && !y.seq.door.heard then
           let q := y.raise .doorOpen ⟨none, none, none, none, none⟩
           { q.1 with seq := { q.1.seq with door := { q.1.seq.door with
             raised := q.1.seq.door.raised || q.2.isSome, prompt := q.2, raiseOwed := q.2.isNone } } }
         else y
       let hand (y : Station) : Station := if y.seq.handRaiseOwed && y.seq.hand == .orphan && !(y.seq.fault.any fun f => f.noTag) then
           let q := y.raise .handLoaded ⟨none, none, some (y.seq.pos.getD 0), none, none⟩
           { q.1 with seq := { q.1.seq with handPrompt := q.2, handRaiseOwed := q.2.isNone } }
         else y
       s.retryRaises = hand (door (fault s))) ∧
  (∀ s : Station,
       (s.ctl.mode ≠ .ready → s.wantedRaises = []) ∧
       (s.ctl.mode = .ready → s.wantedRaises = (s.acc.filter fun u => u.status = .wanted).map fun u => u.subject) ∧
       s.raiseWanted [] = s ∧
       ∀ (x : Subject) (rest : List Subject),
         let q := match x with
           | .cleanDue d => s.raise .cleanDue ⟨none, none, none, some d, none⟩
           | .accountsFull => s.raise .accountsFull ⟨none, none, none, none, none⟩
           | .storeLost => s.raise .storeLost ⟨none, none, none, none, none⟩
         s.raiseWanted (x :: rest) = Station.raiseWanted { q.1 with acc := q.1.acc.map fun u => if u.subject = x then
           { u with status := match q.2 with | some num => .raised num | none => .wanted } else u } rest)

/-- STATUS_ASK and RESTART addressed to the station, in any state in which its LIU runs (R60, R61): a STATUS with the values held now goes to
the asker; a RESTART resets the station at once with cause RESTART, over the retained store (it is held in RESET until LEAVE_RESET: the
model's choice, log 12). STATUS and TALLY (R32, R60, R188): neither a peer's nor the own echo changes anything before the event ends. The
41 bytes of a STATUS (R28, R38, R60): state, conditions, offline reason, order index or 255, reset cause, the sizes of the owned list,
request table and prompt list, eight peer reports with OWN at the own index and every peer ABSENT where no index was learnt, the nine
counters of two bytes in the order of R24, the store flags and the three accounting counts. -/
def Obligations.StatusAndRestart : Prop :=
  (∀ (s : State) (own : Bool) (src : Nat) (rest : List RxEntry),
       (s.station.Hands ⟨own, src, s.station.cv.address⟩ .statusAsk rest →
         exec .statusAsk s = .next { s with station :=
           ((s.station.post .control src (.status s.station.statusBody)).finish).dequeue }) ∧
       (s.station.Hands ⟨own, src, s.station.cv.address⟩ .restart rest →
         exec .restart s = .next { s with station :=
           (Station.start .reset .restart s.station.pins s.station.store s.station.free) })) ∧
  (∀ (s : State) (h : Heard) (rest : List RxEntry),
       (∀ b, s.station.Hands h (.status b) rest → exec .status s = .next { s with station := s.station.finish.dequeue }) ∧
       (∀ m, s.station.Hands h (.tally m) rest → exec .tally s = .next { s with station := s.station.finish.dequeue })) ∧
  (∀ s : Station,
       let c := s.liu.counters
       s.statusBody.length = 41 ∧
       s.statusBody.take 8 = [byteOf s.ctl.mode.code, byteOf (s.heldCond.toNat + 2 * s.faulted.toNat), byteOf s.ctl.offline.code,
         (match s.ctl.index with | some k => byteOf k | none => 255#8), byteOf s.ctl.cause.code, byteOf s.req.owned.length,
         byteOf s.req.table.length, byteOf s.prm.list.length] ∧
       (s.ctl.index = none → ∀ i, i < 8 → s.statusBody[8 + i]? = some 0#8) ∧
       (∀ k, s.ctl.index = some k →
         (k < 8 → s.statusBody[8 + k]? = some 1#8) ∧
         (∀ i p, i < 8 → i ≠ k → s.span.peers.find? (fun p => p.index == i) = some p →
           s.statusBody[8 + i]? = some (byteOf (if p.stale then 5 else 2 + p.kind.code.toNat))) ∧
         (∀ i, i < 8 → i ≠ k → s.span.peers.find? (fun p => p.index == i) = none → s.statusBody[8 + i]? = some 0#8)) ∧
       (s.statusBody.drop 16).take 18 = bytes16 c.crcErrors ++ bytes16 c.malformed ++ bytes16 c.overruns ++ bytes16 c.abortsHeard ++
         bytes16 c.collisions ++ bytes16 c.drops ++ bytes16 c.unknownKinds ++ bytes16 c.lateReplies ++ bytes16 c.callsDropped ∧
       s.statusBody[34]? = some (byteOf (s.store.storeLost.toNat + 2 * s.store.snapInvalid.toNat + 4 * s.store.snapHeld.toNat +
         8 * s.store.closeBusy.toNat)) ∧
       s.statusBody.drop 35 = bytes16 s.store.occLost ++ bytes16 s.store.occEstimated ++ bytes16 s.store.losses)

/-! ## 04_rail_geometry_and_offer_cost.md -/

/-- The bands (R63): [rail_lo + k × D, rail_hi - (n - 1 - k) × D] with D = 2H + G, and the band position nearest a position (R64), on a rail
that passes the test of R46. The travel estimate T(d) (R69), with the rule's own figures. The conflict test of two spans (R75) is symmetric; spans are clear exactly when one ends at least G west of the other. -/
def Obligations.BandsTravelAndConflict : Prop :=
  (∀ (c : ConfigValues) (k : Nat), 1 ≤ c.n → k < c.n → c.railLo ≤ c.railHi → (c.n - 1) * c.D ≤ c.railHi - c.railLo →
    c.D = 2 * c.H + c.G ∧ c.bandLo k = c.railLo + k * c.D ∧ c.bandHi k = c.railHi - (c.n - 1 - k) * c.D ∧
    c.bandLo k ≤ c.bandHi k ∧ c.bandHi k - c.bandLo k = c.railHi - c.railLo - (c.n - 1) * c.D ∧
    (k + 1 < c.n → c.bandLo (k + 1) = c.bandLo k + c.D ∧ c.bandHi (k + 1) = c.bandHi k + c.D) ∧
    ∀ x, (c.inBand k x = true ↔ c.bandLo k ≤ x ∧ x ≤ c.bandHi k) ∧
      c.inBand k (c.nearest k x) = true ∧ (c.inBand k x = true → c.nearest k x = x) ∧
      (x < c.bandLo k → c.nearest k x = c.bandLo k) ∧ (c.bandHi k < x → c.nearest k x = c.bandHi k)) ∧
  (∀ c : ConfigValues, c.travel 0 = 0) ∧
  (∀ (c : ConfigValues) (d : Nat), 1 ≤ c.V → d ≠ 0 → ∃ q, c.travel d = q + c.R ∧ d ≤ q * c.V ∧ (q - 1) * c.V < d) ∧
  (∀ c : ConfigValues, 1 ≤ c.V → c.travel 1 = 1 + c.R) ∧
  (∀ c : ConfigValues, c.V = 20 → c.R = 25 → c.travel 5350 = 293 ∧ c.travel 2900 = 170) ∧
  (∀ (c : ConfigValues) (d : Nat), 1 ≤ c.V → c.R ≤ 255 → d ≤ 65535 → c.travel d ≤ 65790) ∧
  (∀ c : ConfigValues, c.V = 1 → c.R = 255 → c.travel 65535 = 65790) ∧
  (∀ (c : ConfigValues) (a1 b1 a2 b2 : Nat),
    (c.conflict a1 b1 a2 b2 = false ↔ b1 + c.G ≤ a2 ∨ b2 + c.G ≤ a1) ∧ c.conflict a1 b1 a2 b2 = c.conflict a2 b2 a1 b1)

/-- The cost of a call (R68, R70 to R73): it has one exactly where it is reachable, base plus backlog plus penalties held into 1 to 65,534, the base being two
travel estimates and two pick times; unreachable without a committed end, with e, s, t or the window outside the band, or with a peer
that would be displaced and cannot be. The penalties (R72): none for a peer that is not displaced, N for a PARKED one and B for a MOVING
one, and no cost where a displaced peer is FIXED or stale. The committed end (R66): the final position of the request that joined the owned list
last; owning nothing, the target of a granted move, else the rest position. The source and destination (R67): a place with the window
flag is the configured window. The backlog (R71): 0 with no ACTIVE request, else its estimate less the ticks elapsed, held at 0. -/
def Obligations.CostOfACall : Prop :=
  (∀ (s : Station) (call : Call),
       (∀ c b, s.cost call = some (c, b) → ∃ e pen, s.committedEnd = some e ∧
         b = s.cv.travel (dist e (s.cv.sourceOf call).pos) + s.cv.travel (dist (s.cv.sourceOf call).pos (s.cv.targetOf call).pos) +
           2 * s.cv.K ∧ c = max 1 (min (b + s.backlog + pen) 65534) ∧ 1 ≤ c ∧ c ≤ 65534 ∧
         (∀ x ∈ [e, (s.cv.sourceOf call).pos, (s.cv.targetOf call).pos, s.cv.windowPos], s.cv.inBand s.k x = true) ∧
         s.penalties (min e (min (s.cv.sourceOf call).pos (s.cv.targetOf call).pos))
           (max e (max (s.cv.sourceOf call).pos (s.cv.targetOf call).pos)) s.span.peers = some pen) ∧
       (∀ e pen, s.committedEnd = some e →
         (∀ x ∈ [e, (s.cv.sourceOf call).pos, (s.cv.targetOf call).pos, s.cv.windowPos], s.cv.inBand s.k x = true) →
         s.penalties (min e (min (s.cv.sourceOf call).pos (s.cv.targetOf call).pos))
           (max e (max (s.cv.sourceOf call).pos (s.cv.targetOf call).pos)) s.span.peers = some pen →
         let base := s.cv.travel (dist e (s.cv.sourceOf call).pos) +
           s.cv.travel (dist (s.cv.sourceOf call).pos (s.cv.targetOf call).pos) + 2 * s.cv.K
         s.cost call = some (max 1 (min (base + s.backlog + pen) 65534), base)) ∧
       (∀ e, s.committedEnd = some e →
         s.penalties (min e (min (s.cv.sourceOf call).pos (s.cv.targetOf call).pos))
           (max e (max (s.cv.sourceOf call).pos (s.cv.targetOf call).pos)) s.span.peers = none → s.cost call = none) ∧
       (s.committedEnd = none → s.cost call = none) ∧
       (∀ e, s.committedEnd = some e → ∀ x ∈ [e, (s.cv.sourceOf call).pos, (s.cv.targetOf call).pos, s.cv.windowPos],
         s.cv.inBand s.k x = false → s.cost call = none)) ∧
  (∀ (s : Station) (lo hi : Nat) (p : PeerSpan) (ps : List PeerSpan),
       s.penalties lo hi [] = some 0 ∧
       (s.displaces lo hi p = false → s.penalties lo hi (p :: ps) = s.penalties lo hi ps) ∧
       (s.displaces lo hi p = true → p.stale = true ∨ p.kind = .fixed → s.penalties lo hi (p :: ps) = none) ∧
       (s.displaces lo hi p = true → p.stale = false → p.kind = .parked →
         s.penalties lo hi (p :: ps) = (s.penalties lo hi ps).map (· + s.cv.N)) ∧
       (s.displaces lo hi p = true → p.stale = false → p.kind = .moving →
         s.penalties lo hi (p :: ps) = (s.penalties lo hi ps).map (· + s.cv.B)) ∧
       (s.k < p.index → (s.displaces lo hi p = true ↔ (p.lo + p.hi) / 2 < hi + (p.index - s.k) * s.cv.D)) ∧
       (p.index < s.k → (s.displaces lo hi p = true ↔
         (s.k - p.index) * s.cv.D ≤ lo ∧ lo - (s.k - p.index) * s.cv.D < (p.lo + p.hi) / 2))) ∧
  (∀ s : Station,
       (∀ t e, s.req.owned.getLast? = some t → s.req.find t = some e → s.committedEnd = some (s.cv.targetOf e.call).pos) ∧
       (∀ m, s.req.owned = [] → s.span.reservation = .granted → s.span.move = some m → s.committedEnd = some m.target) ∧
       (s.req.owned = [] → s.span.reservation ≠ .granted → s.committedEnd = s.span.rest) ∧
       (s.req.active = none → s.backlog = 0) ∧
       (∀ t e est, s.req.active = some t → s.req.find t = some e → e.estimate = some est → s.backlog = est - s.req.elapsed)) ∧
  (∀ (c : ConfigValues) (call : Call),
       let at_ (p : Place) : Place := if p.window = true then ⟨c.windowPos, c.windowEast, c.windowTier, true⟩ else p
       (call.kind ≠ .demount → c.targetOf call = call.drive ∧ ∀ p, call.source = some p → c.sourceOf call = at_ p) ∧
       (call.kind = .demount → c.sourceOf call = call.drive ∧ ∀ p, call.ret = some p → c.targetOf call = at_ p))

/-! ## 05_the_request_table_and_claiming.md -/

/-- MOUNT_CALL and DEMOUNT_CALL in LEARNING or READY (R32, R79 to R81). A call whose tag is known is ignored. Another joins the tail of a
table of at most 15 entries as HEARD with its window running; where the station may offer and can reach it, its OFFER is posted and the
entry is BIDDING. In a full table it takes the place of the oldest PEER entry, and is offered on likewise, or is counted as dropped. -/
def Obligations.CallIsRecorded : Prop :=
  ∀ (s : State) (h : Heard) (call : Call) (rest : List RxEntry), s.station.Hands h (.call call) rest →
    s.station.ctl.mode = .learning ∨ s.station.ctl.mode = .ready →
    let x := s.station
    let row := if call.kind = .demount then Instr.demountCall else Instr.mountCall
    let e : Entry := ⟨call, x.ctl.second, .heard, .window, none, none, none, false, false, none, none, false, false, none⟩
    let y := { x with req := { x.req with table := x.req.table ++ [e] } }
    let may := x.ctl.mode = .ready ∧ x.seq.doorLatch = false ∧ x.seq.fault = none ∧ 1 ≤ y.req.capacity
    ((∃ o ∈ x.req.table, o.call.tag = call.tag) → exec row s = .next { s with station := x.finish.dequeue }) ∧
    ((∀ o ∈ x.req.table, o.call.tag ≠ call.tag) →
      (x.req.table.length ≤ 15 → ¬ may ∨ y.cost call = none → exec row s = .next { s with station := y.finish.dequeue }) ∧
      (∀ cost base, x.req.table.length ≤ 15 → may → y.cost call = some (cost, base) →
        exec row s = .next { s with station := (({ x with req := { x.req with table := x.req.table ++
          [{ e with state := .bidding, ownOffer := some ⟨cost, base, false⟩ }] } }).post .request 63
            (.offer call.tag cost x.k)).finish.dequeue }) ∧
      (16 ≤ x.req.table.length → (∀ o ∈ x.req.table, o.state ≠ .peer) →
        exec row s = .next { s with station := (x.countCallDropped).finish.dequeue }) ∧
      (∀ front p back, 16 ≤ x.req.table.length → x.req.table = front ++ p :: back → (∀ o ∈ front, o.state ≠ .peer) →
        p.state = .peer → p.prompt = none → (∀ o ∈ front ++ back, o.call.tag ≠ p.call.tag) →
        let z : Station := { x with req := { x.req with table := front ++ back ++ [e] } }
        let may := x.ctl.mode = .ready ∧ x.seq.doorLatch = false ∧ x.seq.fault = none ∧ 1 ≤ z.req.capacity
        (¬ may ∨ z.cost call = none → exec row s = .next { s with station := z.finish.dequeue }) ∧
        (∀ cost base, may → z.cost call = some (cost, base) →
          exec row s = .next { s with station := (Station.post { x with req := { x.req with table := front ++ back ++
            [{ e with state := .bidding, ownOffer := some ⟨cost, base, false⟩ }] } } .request 63
              (.offer call.tag cost x.k)).finish.dequeue })))

/-- OFFER of a peer or an own echo, in LEARNING or READY (R82, R83, R90), for the entry `e` with its tag, in a table that holds no tag
twice (R77; every step keeps that, EveryStepKeepsTheRequestTable). No entry: ignored. HEARD, or PEER
with a stale owner, which is then cleared: BIDDING with a window and the best offer heard; to a peer's OFFER a station that may offer and
whose cost beats it posts a counter-offer. BIDDING: the better of the two offers, and a window unless a timer runs. TAKING, or PEER with
an owner not stale: nothing more. OWNED: a peer's OFFER is answered with a reassert. An own echo marks the own offer heard back besides,
whatever the state, and is answered by nothing. -/
def Obligations.OfferIsTaken : Prop :=
  ∀ (s : State) (own : Bool) (src dst : Nat) (t : Tag) (cost index : Nat) (rest : List RxEntry),
    s.station.Hands ⟨own, src, dst⟩ (.offer t cost index) rest →
    s.station.ctl.mode = .learning ∨ s.station.ctl.mode = .ready → s.station.req.Ok →
    let x := s.station
    let o : Offer := ⟨cost, index⟩
    let ends (y : Station) : State := { s with station := y.finish.dequeue }
    let stale (e : Entry) : Prop := ∃ w, e.owner = some w ∧ ∃ p ∈ x.span.peers, p.addr = w.addr ∧ p.stale = true
    let opens (e : Entry) : Entry := { e with state := .bidding, phase := .window, best := some o,
                                              owner := if e.state = .peer then none else e.owner }
    let further (e : Entry) : Entry := { e with
      best := (match e.best with | none => some o | some held => some (if o.beats held then o else held)),
      phase := if e.phase = .none then .window else e.phase }
    let marked (e : Entry) : Entry := { e with ownOffer := e.ownOffer.map fun w => { w with heardBack := true } }
    let opened := x.updateEntry t opens
    (x.req.find t = none → exec .offer s = .next (ends x)) ∧
    (∀ e, own = false → x.req.find t = some e →
      (e.state = .heard ∨ (e.state = .peer ∧ stale e) →
        (e.ownOffer.isSome ∨ opened.mayOffer = false ∨ opened.cost e.call = none → exec .offer s = .next (ends opened)) ∧
        (∀ c b, e.ownOffer = none → opened.mayOffer = true → opened.cost e.call = some (c, b) →
          exec .offer s = .next (ends (if (Offer.mk c x.k).beats o = true then
            (x.updateEntry t fun e => { opens e with ownOffer := some ⟨c, b, false⟩ }).post .request 63 (.offer t c x.k)
            else opened)))) ∧
      (e.state = .bidding → exec .offer s = .next (ends (x.updateEntry t further))) ∧
      (e.state = .taking ∨ (e.state = .peer ∧ ¬ stale e) → exec .offer s = .next (ends x)) ∧
      (e.state = .owned →
        exec .offer s = .next (ends ((x.updateEntry t fun e => { e with reassert := some (x.reelHeld t) }).post .request 63
          (.take t 0 x.k (x.reelHeld t)))))) ∧
    (∀ e, own = true → x.req.find t = some e →
      (e.state = .heard ∨ (e.state = .peer ∧ stale e) →
        exec .offer s = .next (ends (x.updateEntry t fun e => opens (marked e)))) ∧
      (e.state = .bidding → exec .offer s = .next (ends (x.updateEntry t fun e => further (marked e)))) ∧
      (e.state = .taking ∨ e.state = .owned ∨ (e.state = .peer ∧ ¬ stale e) →
        exec .offer s = .next (ends (x.updateEntry t marked))))

/-- OFFER_WINDOW_EXPIRY and TAKE_WAIT_EXPIRY (R84 to R86, R94). A window that the station's own heard-back offer wins, in READY with neither
HELD nor FAULTED and the call still reachable, has its TAKE posted with that offer's cost and the entry TAKING on the owned list; any
other BIDDING entry starts its take wait; a HEARD one has no timer left. (That REQUEST-WAITING is withdrawn before the TAKE is posted is the
model's choice, log 61.) A take wait that expires returns the entry to HEARD, and an own
offer that ends so is a rescan point. -/
def Obligations.WindowAndTakeWaitExpire : Prop :=
  ∀ (s : State) (ciu num : Byte) (e : Entry),
    let x := s.station
    let t : Tag := ⟨ciu.toNat, num.toNat⟩
    x.req.find t = some e →
    let won := ∃ o, e.ownOffer = some o ∧ o.heardBack = true ∧ e.best = some ⟨o.cost, x.k⟩ ∧ x.fit = true ∧ x.cost e.call ≠ none
    (e.phase = .window → e.state = .bidding → ∀ o, e.ownOffer = some o → won →
      exec (.offerWindowExpiry ciu num) s = .next { s with station :=
        ((Station.withdrawWaiting { x with req := { x.req with
          table := x.req.table.map (fun e => if e.call.tag = t then
            { e with state := .taking, phase := .none, hold := false, rival := false } else e),
          owned := x.req.owned ++ [t] } } t).post .request 63 (.take t o.cost x.k false)).finish }) ∧
    (e.phase = .window → e.state = .bidding → ¬ won →
      exec (.offerWindowExpiry ciu num) s = .next { s with station := (x.updateEntry t fun e => { e with phase := .takeWait }).finish }) ∧
    (e.phase = .window → e.state ≠ .bidding →
      exec (.offerWindowExpiry ciu num) s = .next { s with station := (x.updateEntry t fun e => { e with phase := .none }).finish }) ∧
    (e.phase = .takeWait → e.state = .bidding →
      exec (.takeWaitExpiry ciu num) s = .next { s with station := Station.finish { x with req := { x.req with
        table := x.req.table.map (fun e => if e.call.tag = t then
          { e with state := .heard, phase := .none, ownOffer := none, best := none, owner := none, hold := false, rival := false,
                   estimate := none, reassert := none } else e),
        rescan := x.req.rescan || e.ownOffer.isSome } } })

/-- TAKE (R87 to R91) for the entry `e` with its tag. The own first TAKE heard back starts the hold of a TAKING entry. A peer's makes a HEARD
or BIDDING entry PEER with its claim; replaces the claim of a PEER entry when it is the owner's own or beats it; against a TAKING entry
it is a rival: a first TAKE beaten by the own offer sets the rival mark, any other is yielded to (one of the very cost and index of the
own offer too: R89 is silent, the model's reading, log 26); against an OWNED entry a first TAKE is
answered with a reassert. A peer's reassert for an own OWNED entry (R91). Kept with a reassert when the own claim beats it; lost, without
a reel, to PEER, the request dropped and the entry off the owned list; kept with the reel held, with a reassert unless the last one was
loaded already. A reassert of the own kind and the own order index, which neither beats, is taken as one that beats the own (R91 is silent:
the model's choice, log 60). -/
def Obligations.TakeIsSettled : Prop :=
  (∀ (s : State) (own : Bool) (src dst : Nat) (t : Tag) (cost index : Nat) (loaded : Bool) (rest : List RxEntry),
       s.station.Hands ⟨own, src, dst⟩ (.take t cost index loaded) rest →
       s.station.ctl.mode = .learning ∨ s.station.ctl.mode = .ready →
       let x := s.station
       let w : Owner := ⟨src, ⟨cost, index, loaded⟩⟩
       let peer (e : Entry) : Entry := { e with
         state := .peer, phase := .none, ownOffer := none, best := none, owner := some w, hold := false, rival := false,
         estimate := none, reassert := none }
       let ends (y : Station) (e : Entry) : Station := if e.state = .bidding ∧ e.ownOffer.isSome = true then y.rescanPoint else y
       (x.req.find t = none → own = false → exec .take s = .next { s with station := x.finish.dequeue }) ∧
       (own = true → cost ≠ 0 → exec .take s = .next { s with station :=
         (x.updateEntry t fun e => if e.state = .taking then { e with hold := true } else e).finish.dequeue }) ∧
       (∀ e, own = false → x.req.find t = some e →
         (e.state = .heard ∨ e.state = .bidding →
           exec .take s = .next { s with station := (((ends x e).withdrawWaiting t).updateEntry t peer).finish.dequeue }) ∧
         (∀ v, e.state = .peer → e.owner = some v → exec .take s = .next { s with station :=
           (if v.addr = src ∨ w.claim.beats v.claim = true then x.updateEntry t fun e => { e with owner := some w } else x).finish.dequeue }) ∧
         (∀ o, e.state = .taking → e.ownOffer = some o → exec .take s = .next { s with station :=
           (if cost ≠ 0 ∧ (o.cost < cost ∨ (o.cost = cost ∧ x.k < index)) then x.updateEntry t fun e => { e with rival := true }
            else ((x.withdrawWaiting t).updateEntry t peer).leaveOwned t).finish.dequeue }) ∧
         (e.state = .owned → cost ≠ 0 → exec .take s = .next { s with station :=
           ((x.updateEntry t fun e => { e with reassert := some (x.reelHeld t) }).post .request 63
             (.take t 0 x.k (x.reelHeld t))).finish.dequeue }))) ∧
  (∀ (s : State) (src dst : Nat) (t : Tag) (index : Nat) (loaded : Bool) (rest : List RxEntry) (e : Entry),
       s.station.Hands ⟨false, src, dst⟩ (.take t 0 index loaded) rest →
       s.station.ctl.mode = .learning ∨ s.station.ctl.mode = .ready → s.station.req.find t = some e → e.state = .owned →
       let x := s.station
       let held := x.reelHeld t
       let again := (x.updateEntry t fun e => { e with reassert := some held }).post .request 63 (.take t 0 x.k held)
       let mine : Prop := if held = loaded then x.k < index else held = true
       (mine → exec .take s = .next { s with station := again.finish.dequeue }) ∧
       (¬ mine → held = false → exec .take s = .next { s with station := ((((x.withdrawWaiting t).updateEntry t fun e => { e with
           state := .peer, phase := .none, ownOffer := none, best := none, owner := some ⟨src, ⟨0, index, loaded⟩⟩, hold := false,
           rival := false, estimate := none, reassert := none }).dropRequest t).leaveOwned t).finish.dequeue }) ∧
       (¬ mine → held = true → e.reassert ≠ some true → exec .take s = .next { s with station := again.finish.dequeue }) ∧
       (¬ mine → held = true → e.reassert = some true → exec .take s = .next { s with station := x.finish.dequeue }))

/-- TAKE_HOLD_END (R87, R92): a TAKING entry whose hold ran is OWNED with the base of its own offer as estimate; with no ACTIVE request it
becomes ACTIVE, elapsed_active at 0, and is handed to the Carriage Sequencer at its first stage, or at COMPLETING while a DONE of its tag
still waits in the DONE list (the model's choice, log 27); with the rival mark a reassert is posted. -/
def Obligations.HoldEndsInOwned : Prop :=
  ∀ (s : State) (ciu num : Byte) (e : Entry) (o : OwnOffer),
    let x := s.station
    let t : Tag := ⟨ciu.toNat, num.toNat⟩
    x.req.find t = some e → e.state = .taking → e.hold = true → e.ownOffer = some o →
    let owned := x.updateEntry t fun e => { e with state := .owned, hold := false, rival := false, estimate := e.ownOffer.map (·.base) }
    let active := { owned with
      req := { owned.req with active := some t, elapsed := 0 },
      seq := { owned.seq with moveRefused := false, record := some { ReqRecord.new e.call with
        stage := if x.seq.doneList.any fun d => d.done.tag = t then .completing else firstStage e.call } } }
    let after := if x.req.active = none then active else owned
    (e.rival = false → exec (.takeHoldEnd ciu num) s = .next { s with station := after.finish }) ∧
    (e.rival = true → exec (.takeHoldEnd ciu num) s = .next { s with station :=
      ((after.updateEntry t fun e => { e with reassert := some (after.reelHeld t) }).post .request 63
        (.take t 0 after.k (after.reelHeld t))).finish })

/-- DONE in LEARNING or READY (R32, R52, R93, R96, R142, R175, R178): an own echo leaves the DONE list, clears the record in COMPLETING and
removes an OWNED entry, which leaves the owned list; a peer's removes a HEARD, BIDDING or PEER entry, a TAKING one and one OWNED before
pick completion, the request being dropped, and leaves one OWNED at or after it. Then the Accounting Unit takes it in READY, and in
LEARNING brings its drive table up to date alone (that it comes after the Request Unit is the model's choice, log 21). Leaving the owned
list is a rescan point; when the ACTIVE request leaves it, the next OWNED request of the list becomes ACTIVE with elapsed_active at 0 and
is handed to the Carriage Sequencer (R92 to R94). DONE_REPOST_TIMER (R142): the one DONE whose second since its drop is over is posted
again with the same fields, its timer stopped; it stays in the DONE list. -/
def Obligations.DoneIsTakenAndReposted : Prop :=
  (∀ (s : State) (own : Bool) (src dst : Nat) (d : Done) (rest : List RxEntry), s.station.Hands ⟨own, src, dst⟩ (.done d) rest →
       s.station.ctl.mode = .learning ∨ s.station.ctl.mode = .ready →
       let x := s.station
       let account (y : Station) : Station := if x.ctl.mode = .ready then y.accountDone own d else y.driveUpdate d
       let echoed := { x with seq := { x.seq with
         doneList := removeDone d x.seq.doneList,
         record := if (∃ r, x.seq.record = some r ∧ r.tag = d.tag ∧ r.stage = .completing) then none else x.seq.record } }
       (own = true → (∃ e, x.req.find d.tag = some e ∧ e.state = .owned) → exec .done s = .next { s with station :=
         (account ((echoed.removeEntry d.tag).leaveOwned d.tag)).finish.dequeue }) ∧
       (own = true → (∀ e, x.req.find d.tag = some e → e.state ≠ .owned) →
         exec .done s = .next { s with station := (account echoed).finish.dequeue }) ∧
       (own = false → x.req.find d.tag = none → exec .done s = .next { s with station := (account x).finish.dequeue }) ∧
       (∀ e, own = false → x.req.find d.tag = some e →
         (e.state = .heard ∨ e.state = .bidding ∨ e.state = .peer → exec .done s = .next { s with station :=
           (account (x.removeEntry d.tag)).finish.dequeue }) ∧
         (e.state = .taking → exec .done s = .next { s with station :=
           (account ((x.removeEntry d.tag).leaveOwned d.tag)).finish.dequeue }) ∧
         (e.state = .owned → x.pickDone d.tag = true → exec .done s = .next { s with station := (account x).finish.dequeue }) ∧
         (e.state = .owned → x.pickDone d.tag = false → exec .done s = .next { s with station :=
           (account (((x.removeEntry d.tag).dropRequest d.tag).leaveOwned d.tag)).finish.dequeue }))) ∧
  (∀ (s : State) (front back : List DoneRecord) (d : Done), s.station.seq.doneList = front ++ ⟨d, some 0⟩ :: back →
       (∀ r ∈ front ++ back, r.timer ≠ some 0) →
       exec .doneRepostTimer s = .next { s with station := (Station.post { s.station with seq := { s.station.seq with
         doneList := front ++ ⟨d, none⟩ :: back } } .sequencer 63 (.done d)).finish }) ∧
  (∀ (s : Station) (t : Tag),
       let y := { s with req := { s.req with owned := s.req.owned.filter fun u => u != t, rescan := true } }
       let owned (u : Tag) : Prop := ∃ e, s.req.find u = some e ∧ e.state = .owned
       (s.req.active ≠ some t → s.leaveOwned t = y) ∧
       (s.req.active = some t → (∀ u ∈ y.req.owned, ¬ owned u) → s.leaveOwned t = { y with req := { y.req with active := none } }) ∧
       (∀ front u back e, s.req.active = some t → y.req.owned = front ++ u :: back → (∀ v ∈ front, ¬ owned v) →
         s.req.find u = some e → e.state = .owned → (∀ d ∈ s.seq.doneList, d.done.tag ≠ u) →
         s.leaveOwned t = { y with req := { y.req with active := some u, elapsed := 0 },
                                   seq := { y.seq with moveRefused := false, record := some (ReqRecord.new e.call) } }))

/-- REQUEST_AGEING and REQUEST_WAITING_DUE (R99 to R101). Every HEARD or PEER entry 1,800 s old is removed, and no other. In READY the HEARD
entry that has waited 120 s and k more, with neither mark set, has REQUEST-WAITING raised with its tag and volume; the raised-here mark
is set if the raise is accepted, and none otherwise. -/
def Obligations.AgeingAndWaiting : Prop :=
  ∀ s : State,
    let x := s.station
    let aged (e : Entry) : Bool := (e.state = .heard ∨ e.state = .peer) && decide (e.arrival + 1800 ≤ x.ctl.second)
    let due (e : Entry) : Bool := (e.state = .heard) && decide (e.arrival + 120 + x.k ≤ x.ctl.second) && !e.noticed && !e.raisedHere
    (x.ctl.mode = .learning ∨ x.ctl.mode = .ready → x.req.Ok → (∀ e ∈ x.req.table, aged e = true → e.prompt = none) →
      (∃ e ∈ x.req.table, aged e = true) → exec .requestAgeing s = .next { s with station :=
        (Station.finish { x with req := { x.req with table := x.req.table.filter fun e => !aged e } }) }) ∧
    (∀ e, x.ctl.mode = .ready → x.req.table.filter due = [e] →
      let r := x.raise .requestWaiting ⟨some e.call.tag, some e.call.volume, none, none, none⟩
      (∀ num, r.2 = some num → exec .requestWaitingDue s = .next { s with station :=
        (r.1.updateEntry e.call.tag fun e => { e with raisedHere := true, prompt := some num }).finish }) ∧
      (r.2 = none → exec .requestWaitingDue s = .next { s with station := r.1.finish }))

/-- One offer beats another when its cost is lower, or when the costs are equal and its order index is lower: of two different offers exactly
one beats the other, and an offer does not beat itself (R74). The claim order (R88): a reassert beats a first TAKE, a loaded reassert an
unloaded one, and otherwise R74 decides; of two claims with different indexes exactly one beats the other, and the order is transitive.
Two rivals that each hear the other's first TAKE reach opposite ends (R89). -/
def Obligations.OfferAndClaimOrder : Prop :=
  (∀ a b : Offer, (a.beats b = true ↔ a.cost < b.cost ∨ (a.cost = b.cost ∧ a.index < b.index)) ∧ a.beats a = false ∧
       (a ≠ b → (a.beats b = true ↔ b.beats a = false))) ∧
  ((∀ a b : Claim, a.cost = 0 → b.cost ≠ 0 → a.beats b = true ∧ b.beats a = false) ∧
     (∀ a b : Claim, a.cost = 0 → b.cost = 0 →
       (a.beats b = true ↔ if a.loaded = b.loaded then a.index < b.index else a.loaded = true)) ∧
     (∀ a b : Claim, a.cost ≠ 0 → b.cost ≠ 0 → a.beats b = (Offer.mk a.cost a.index).beats ⟨b.cost, b.index⟩) ∧
     (∀ a b : Claim, a.index ≠ b.index → (a.beats b = true ↔ b.beats a = false)) ∧
     (∀ a b c : Claim, a.beats b = true → b.beats c = true → a.beats c = true) ∧
     (∀ (e f : Entry) (o p : OwnOffer) (j k : Nat), e.ownOffer = some o → f.ownOffer = some p → j ≠ k →
       e.beatsRival j ⟨p.cost, k, false⟩ = !f.beatsRival k ⟨o.cost, j, false⟩))

/-- Every step keeps the request table at 16 entries or fewer, no two with the same tag (R77, R79, R80). -/
def Obligations.EveryStepKeepsTheRequestTable : Prop :=
  ∀ s t : State, s.station.req.Ok → step s = .next t → t.station.req.Ok

/-! ## 06_span_reservation_and_nudging.md -/

/-- SPAN of a peer in LEARNING or READY (R56, R97, R102, R103). Of the station's own index it sends the station OFFLINE with ORDER-CONFLICT
in LEARNING. Of another it is entered in order of index with sender, ends, kind and the present second, not stale, another entry of the
sender removed; a silent-peer record of the sender ends; the reservation takes it; and a fresh one then returns the sender's calls to
HEARD: its PEER entries, offers, owner and timers cleared, in their places and with their arrival seconds, and the moment is a rescan point.
(That one of the own index ends no silent-peer record and reaches no reservation in READY is the model's choice, log 63.) -/
def Obligations.PeerSpanIsEntered : Prop :=
  (∀ (s : State) (src dst index : Nat) (kind : SpanKind) (lo hi : Nat) (fresh reassert : Bool) (rest : List RxEntry),
    s.station.Hands ⟨false, src, dst⟩ (.span index kind lo hi fresh reassert) rest →
    let x := s.station
    let freed (y : Station) : Station := if fresh then y.reopen src else y
    (x.ctl.mode = .learning → index = x.k →
      exec .span s = .next { s with station := ((x.enterOffline .orderConflict).finish).dequeue }) ∧
    (x.ctl.mode = .learning ∨ x.ctl.mode = .ready → index ≠ x.k →
      let y := { x with span := { x.span with
        peers := insertPeer ⟨index, src, lo, hi, kind, x.ctl.second, false⟩
          (x.span.peers.filter fun p => p.index != index && p.addr != src) } }
      exec .span s = .next { s with station := (freed ((y.peerHeard src).reserveAgainst index lo hi reassert)).finish.dequeue }) ∧
    (x.ctl.mode = .ready → index = x.k → exec .span s = .next { s with station := (freed x).finish.dequeue })) ∧
  ∀ (s : Station) (a : Nat),
    let its (e : Entry) : Bool := e.state == .peer && e.owner.any fun w => w.addr == a
    s.reopen a = { s with req := { s.req with
      table := s.req.table.map fun e => if its e then { e with
        state := .heard, phase := .none, ownOffer := none, best := none, owner := none, hold := false, rival := false,
        estimate := none, reassert := none } else e,
      rescan := s.req.rescan || s.req.table.any its } }

/-- What a peer's SPAN does to the reservation (R103, R109, R113, R114, R116). PARKED: nothing. A SPAN clear of the own entry: nothing.
WAITING: the move is evaluated. ASKING: the station withdraws its SPAN, its own entry is the rest span, posted where the withdrawal came
too late, and it waits 5 s, evaluated at once. GRANTED, without the reassert flag, or with it while the station is reasserting with the
lower index: the grant is kept, stated again with the reassert flag in the first case. GRANTED and lost: a STOP for the lost grant is
issued for a TRAVEL in flight unless one is outstanding, the station waits 5 s with its target and retry count kept, its rest position
unknown, its own entry FIXED over the granted span and stated. A move whose request was dropped while it was granted is then given up
(R115, R143; the model's reading, log 62): PARKED, no move. -/
def Obligations.ReservationMeetsPeerSpan : Prop :=
  ∀ (s : Station) (o : OwnSpan) (index lo hi : Nat) (reassert : Bool), s.span.own = some o →
    let clash := ¬ (o.hi + s.cv.G ≤ lo ∨ hi + s.cv.G ≤ o.lo)
    let met := s.reserveAgainst index lo hi reassert
    (s.span.reservation = .parked → met = s) ∧
    (s.span.reservation = .asking ∨ s.span.reservation = .granted → ¬ clash → met = s) ∧
    (s.span.reservation = .waiting → met = s.evaluate) ∧
    (s.span.reservation = .asking → clash →
      let y : Station := { s with liu := s.liu.withdrawSpan.1, span := { s.span with
        reservation := .waiting, waitTimer := some 500, firstFree := false,
        own := match s.span.rest with
          | some p => some ⟨p - s.cv.H, min (p + s.cv.H) 65535,
              if s.seq.doorLatch || s.seq.fault.isSome || !s.cv.inBand s.k p then .fixed else .parked, false⟩
          | none => some o } }
      met = (if s.liu.withdrawSpan.2 = true then y.postOwn else y).evaluate) ∧
    (s.span.reservation = .granted → clash → reassert = false → met = s.stateOwn { o with reassert := true }) ∧
    (s.span.reservation = .granted → clash → reassert = true → o.reassert = true → s.k < index → met = s) ∧
    (s.span.reservation = .granted → clash → reassert = true → (o.reassert = false ∨ index ≤ s.k) →
      let lost (q : Sequencer) : Station := Station.stateOwn { s with seq := q, span := { s.span with
        reservation := .waiting, waitTimer := some 500, firstFree := false, rest := none } } ⟨o.lo, o.hi, .fixed, false⟩
      let kept (y : Station) : Station := if (∃ m, s.span.move = some m ∧ m.purpose = .dropped) then Station.clearRailBlocked { y with
          span := { y.span with reservation := .parked, move := none, retries := 0, waitTimer := none, firstFree := false } }
        else y
      ((∀ f t, s.seq.cmd = some f → f.cmd ≠ .travel t) → met = kept (lost s.seq)) ∧
      (∀ f t, s.seq.cmd = some f → f.cmd = .travel t → met = kept (lost { s.seq with
        cmd := some { f with causes := some (match f.causes with | some c => { c with lost := true } | none => ⟨false, true, false⟩) },
        stop := if s.seq.stop = none then some ⟨100, .travel t, f.purpose⟩ else s.seq.stop })))

/-- SPAN heard back (R54, R110): an own echo clears the fresh mark it carries; in ASKING the echo of the MOVING span of the own entry grants
the move with the retry count at 0 and RAIL-BLOCKED withdrawn; a stray MOVING echo has the own entry posted once; any other changes
nothing more. -/
def Obligations.SpanHeardBack : Prop :=
  ∀ (s : State) (src dst index : Nat) (kind : SpanKind) (lo hi : Nat) (fresh reassert : Bool) (rest : List RxEntry) (o : OwnSpan),
    s.station.Hands ⟨true, src, dst⟩ (.span index kind lo hi fresh reassert) rest →
    s.station.ctl.mode = .learning ∨ s.station.ctl.mode = .ready → s.station.span.own = some o →
    let x := { s.station with span := { s.station.span with fresh := s.station.span.fresh && !fresh } }
    (kind = .moving → x.span.reservation = .asking → o.lo = lo → o.hi = hi → exec .span s = .next { s with station :=
      (Station.clearRailBlocked { x with span := { x.span with reservation := .granted, retries := 0 } }).finish.dequeue }) ∧
    (kind = .moving → x.span.reservation = .parked ∨ x.span.reservation = .waiting ∨ o.lo ≠ lo ∨ o.hi ≠ hi →
      exec .span s = .next { s with station := x.postOwn.finish.dequeue }) ∧
    (kind ≠ .moving ∨ (x.span.reservation = .granted ∧ o.lo = lo ∧ o.hi = hi) →
      exec .span s = .next { s with station := x.finish.dequeue })

/-- RESTATEMENT_TIMER and WAITING_TIMER (R106, R116, R118): the own entry is posted as it stands and the 2 s start again. In WAITING the
retry count rises to at most 3, not at the first expiry after a drop; at 3 with the latch clear RAIL-BLOCKED is raised with the target,
again at every later expiry after a refused raise, and the latch is set if the raise is accepted; the timer starts again at 5 s and the
move is evaluated (last: the model's choice, log 64). -/
def Obligations.SpanTimersExpire : Prop :=
  ∀ s : State,
    let x := s.station
    (∀ o, x.span.restateTimer = some 0 → x.span.own = some o → exec .restatementTimer s = .next { s with station :=
      (Station.settle { x with span := { x.span with restateTimer := some 200 } }
        (x.liu.postSpan ((Msg.span x.k o.kind o.lo o.hi x.span.fresh o.reassert).frame x.cv.address 63)) []).finish }) ∧
    (x.span.reservation = .waiting → x.span.waitTimer = some 0 →
      let again (y : Station) : State := { s with station :=
        (Station.evaluate { y with span := { y.span with waitTimer := some 500, firstFree := false } }).finish }
      let count := if x.span.firstFree = true then x.span.retries else min (x.span.retries + 1) 3
      let counted := { x with span := { x.span with retries := count } }
      (count ≠ 3 ∨ x.span.railLatch = true ∨ x.span.move = none → exec .waitingTimer s = .next (again counted)) ∧
      (∀ m, count = 3 → x.span.railLatch = false → x.span.move = some m →
        let r := counted.raise .railBlocked ⟨none, none, some m.target, none, none⟩
        (∀ num, r.2 = some num → exec .waitingTimer s =
          .next (again { r.1 with span := { r.1.span with railLatch := true, railPrompt := some num } })) ∧
        (r.2 = none → exec .waitingTimer s = .next (again r.1))))

/-- The evaluation of a waiting move (R65, R75, R116, R117): with no conflicting peer entry the MOVING span of the stretch is stated and the
reservation is ASKING; a NUDGE goes to a conflicting PARKED peer that is not stale and was not nudged in the last 5 s, eastward with the
span's hi plus G or westward with its lo less G, and to no other. -/
def Obligations.EvaluationAsksOrNudges : Prop :=
  ∀ (s : Station) (c : Nat) (m : Move), s.span.reservation = .waiting → s.span.rest = some c → s.span.move = some m →
    let w : OwnSpan := ⟨min c m.target - s.cv.H, min (max c m.target + s.cv.H) 65535, .moving, false⟩
    let clash (p : PeerSpan) : Prop := ¬ (w.hi + s.cv.G ≤ p.lo ∨ p.hi + s.cv.G ≤ w.lo)
    ((∀ p ∈ s.span.peers, ¬ clash p) → s.evaluate =
      ({ s with span := { s.span with reservation := .asking, waitTimer := none, firstFree := false } }).stateOwn w) ∧
    (∀ p, s.span.peers = [p] → clash p →
      let noted := { s with span := { s.span with nudges := s.span.nudges ++ [NudgeRecord.mk p.addr 500] } }
      ((p.kind ≠ .parked ∨ p.stale = true ∨ ∃ n ∈ s.span.nudges, n.addr = p.addr) → s.evaluate = s) ∧
      (p.kind = .parked → p.stale = false → (∀ n ∈ s.span.nudges, n.addr ≠ p.addr) → s.evaluate =
        if s.k < p.index then noted.post .span p.addr (.nudge false (min (w.hi + s.cv.G) 65535) s.k)
        else noted.post .span p.addr (.nudge true (w.lo - s.cv.G) s.k)))

/-- NUDGE in READY (R64, R119, R120): ignored while HELD or FAULTED, from the wrong side, or not addressed to the station; one already served
has the own entry posted; any other is held in its direction's place, and served at once where the station is free. -/
def Obligations.NudgeIsTaken : Prop :=
  ∀ (s : State) (src dst : Nat) (west : Bool) (boundary requester : Nat) (rest : List RxEntry),
    s.station.Hands ⟨false, src, dst⟩ (.nudge west boundary requester) rest → s.station.ctl.mode = .ready →
    let x := s.station
    let wrong := if west then requester ≤ x.k else x.k ≤ requester
    let centre := x.cv.nearest x.k (if west then boundary - x.cv.H else boundary + x.cv.H)
    let held := { x with span := { x.span with
      held := (x.span.held.filter fun (n : HeldNudge) => n.east != !west) ++ [HeldNudge.mk (!west) boundary requester] } }
    ((dst ≠ x.cv.address ∨ x.seq.doorLatch = true ∨ x.seq.fault ≠ none ∨ wrong) →
      exec .nudge s = .next { s with station := x.finish.dequeue }) ∧
    (dst = x.cv.address → x.fit = true → ¬ wrong →
      (∀ c, x.span.rest = some c → (if west then c ≤ centre else centre ≤ c) →
        exec .nudge s = .next { s with station := x.postOwn.finish.dequeue }) ∧
      (∀ c, x.span.rest = some c → ¬ (if west then c ≤ centre else centre ≤ c) →
        exec .nudge s = .next { s with station := held.serveHeld.finish.dequeue }) ∧
      (x.span.rest = none → exec .nudge s = .next { s with station := held.finish.dequeue }) ∧
      (x.seq.cmd ≠ none → held.serveHeld = held))

/-- How a nudge is served (R64, R108, R115, R119 to R122). A move is begun with its target, its purpose and a retry count of 0: ASKING, the
wanted span stated, where no peer entry conflicts, and WAITING 5 s, evaluated at once, where one does. Giving way ends the Sequencer's own
move: PARKED, the RAIL-BLOCKED prompt withdrawn, and from ASKING the SPAN withdrawn and the own entry the rest span again. With the
carriage free, neither HELD nor FAULTED set, nothing granted, no nudge being served and the rest position known, the held nudge taken
earlier is served first: one that the rest position already serves is discarded, with nothing posted for it (the model's choice, log 65),
any other is moved for, the Sequencer's move giving way,
to the new centre; and while one is being served the Sequencer chooses no step. -/
def Obligations.NudgesAreServed : Prop :=
  (∀ (s : Station) (c target : Nat) (purpose : Purpose),
    let w : OwnSpan := ⟨min c target - s.cv.H, min (max c target + s.cv.H) 65535, .moving, false⟩
    let clash (p : PeerSpan) : Prop := ¬ (w.hi + s.cv.G ≤ p.lo ∨ p.hi + s.cv.G ≤ w.lo)
    let begun (r : Reservation) (timer : Option Nat) : Station := { s with span := { s.span with
      move := some ⟨target, purpose⟩, retries := 0, reservation := r, waitTimer := timer, firstFree := false } }
    ((∀ p ∈ s.span.peers, ¬ clash p) → s.beginMove c target purpose = (begun .asking none).stateOwn w) ∧
    ((∃ p ∈ s.span.peers, clash p) → s.beginMove c target purpose = (begun .waiting (some 500)).evaluate)) ∧
  (∀ s : Station,
    let parked (y : Station) : Station := { y with span := { y.span with
      reservation := .parked, move := none, retries := 0, waitTimer := none, firstFree := false } }
    (s.span.reservation = .waiting → s.giveWay = (parked s).clearRailBlocked) ∧
    (s.span.reservation = .asking → s.giveWay = (parked { s with liu := s.liu.withdrawSpan.1, span := { s.span with
      own := match s.span.rest with
        | some p => some ⟨p - s.cv.H, min (p + s.cv.H) 65535,
            if s.seq.doorLatch || s.seq.fault.isSome || !s.cv.inBand s.k p then .fixed else .parked, false⟩
        | none => s.span.own } }).clearRailBlocked) ∧
    (s.span.railPrompt = none → s.clearRailBlocked = { s with span := { s.span with railLatch := false } }) ∧
    (∀ num, s.span.railPrompt = some num → s.clearRailBlocked =
      Station.withdrawPrompt { s with span := { s.span with railLatch := false, railPrompt := none } } .span num)) ∧
  (∀ (s : Station) (c : Nat) (n : HeldNudge) (rest : List HeldNudge), s.ctl.mode = .ready → s.seq.cmd = none →
    s.seq.stop = none → s.seq.doorLatch = false → s.seq.fault = none → (∀ m, s.span.move = some m → m.purpose ≠ .nudge) →
    s.span.reservation ≠ .granted → s.span.rest = some c → s.span.held = n :: rest →
    let centre := s.cv.nearest s.k (if n.east then n.boundary + s.cv.H else n.boundary - s.cv.H)
    let served := if n.east then centre ≤ c else c ≤ centre
    let taken : Station := { s with span := { s.span with held := rest } }
    (served → s.serveHeld = taken.serveHeld) ∧
    (¬ served → s.serveHeld =
      (if s.span.reservation = .parked then taken else taken.giveWay).beginMove c centre .nudge)) ∧
  (∀ (s : Station) (m : Move), s.ctl.mode = .ready → s.seq.cmd = none → s.seq.stop = none → s.span.reservation ≠ .granted →
    s.serveHeld.span.move = some m → m.purpose = .nudge → s.serveHeld.seq.posKnown = true → s.chooseNext = s.serveHeld)

/-- STALE_MARK and STATION_SILENT_DUE in READY (R104, R123). Every peer not heard for 6 s is marked stale, its due second the present one
plus k, with ends and kind kept. For a silent peer that is due and unmarked STATION-SILENT is raised with its address, and the raised
mark set if the raise is accepted. -/
def Obligations.SilentPeersAreMarked : Prop :=
  ∀ s : State, s.station.ctl.mode = .ready →
    let x := s.station
    let late (p : PeerSpan) : Bool := !p.stale && decide (p.lastHeard + 6 ≤ x.ctl.second)
    ((∃ p ∈ x.span.peers, late p = true) → ∃ y : Station, exec .staleMark s = .next { s with station := y.finish } ∧
      y.span.peers = x.span.peers.map (fun p => if late p then { p with stale := true } else p) ∧
      (∀ p ∈ x.span.peers, late p = true → ∃ r ∈ y.span.silent, r.addr = p.addr ∧ r.due = some (x.ctl.second + x.k)) ∧
      { y with span := { y.span with peers := x.span.peers, silent := x.span.silent } } = x) ∧
    (∀ r, x.span.silent.filter x.silentDue = [r] →
      let q := x.raise .stationSilent ⟨none, none, none, none, some r.addr⟩
      (∀ num, q.2 = some num → exec .stationSilentDue s = .next { s with station := (Station.finish { q.1 with span := { q.1.span with
        silent := updateSilent r.addr (fun r => { r with raised := true, prompt := some num }) q.1.span.silent } }) }) ∧
      (q.2 = none → exec .stationSilentDue s = .next { s with station := q.1.finish }))

/-- Every step keeps this: a TRAVEL in flight has its grant, unless a STOP was issued for it (R110, R114, R128, R131). -/
def Obligations.EveryStepKeepsTravelGranted : Prop :=
  ∀ s t : State, s.station.TravelOk → step s = .next t → t.station.TravelOk

/-! ## 07_the_carriage_port_and_request_execution.md -/

/-- TRAVEL_COMPLETION (R112, R126, R131, R132, R148) for the TRAVEL in flight. OK under the move's grant: the target is the known and the
rest position, the own entry PARKED there and posted, the reservation PARKED with no move. STOPPED: the position is unknown; a TRAVEL
stopped for the door, neither a nudge's nor a dropped request's (the model's reading, log 56), is recorded to resume; one whose grant was lost keeps its move in
WAITING; one still granted, stopped for a drop, leaves the own entry FIXED over the granted span, stated, and no move. -/
def Obligations.TravelCompletes : Prop :=
  ∀ (s : State) (status : Word) (f : InFlight) (t : Nat),
    s.station.seq.cmd = some f → f.cmd = .travel t → status.toNat / 256 % 16 = 1 →
    let x := s.station
    (status.toNat % 8 = 0 → x.span.reservation = .granted ∨ x.span.reservation = .waiting →
      (∀ c, f.causes = some c → c.dropped = false) → x.span.railPrompt = none →
      exec (.travelCompletion status) s = .next { s with station := (Station.stateOwn { x with
        seq := { x.seq with cmd := none, pos := some t, posKnown := true },
        span := { x.span with rest := some t, reservation := .parked, move := none, retries := 0, waitTimer := none,
                              firstFree := false, railLatch := false } }
        ⟨t - x.cv.H, min (t + x.cv.H) 65535, .parked, false⟩).finish }) ∧
    (∀ c, status.toNat % 8 = 3 → f.causes = some c → x.span.reservation ≠ .granted →
      exec (.travelCompletion status) s = .next { s with station := Station.finish { x with seq := { x.seq with
        cmd := none, posKnown := false,
        resume := if c.door = true ∧ f.orphan = false ∧ f.purpose ≠ .nudge ∧ f.purpose ≠ .dropped then some (f.cmd, f.purpose) else x.seq.resume } } }) ∧
    (∀ c o, status.toNat % 8 = 3 → f.causes = some c → c.door = false → x.span.reservation = .granted → x.span.own = some o →
      exec (.travelCompletion status) s = .next { s with station := (Station.stateOwn { x with
        seq := { x.seq with cmd := none, posKnown := false },
        span := { x.span with rest := none, reservation := .parked, move := none, retries := 0, waitTimer := none, firstFree := false } }
        ⟨o.lo, o.hi, .fixed, false⟩).finish })

/-- PICK_COMPLETION (R134, R136, R138, R143, R148, R151) for the PICK in flight. OK for the request: the hand REQUEST, pick completion set,
the next stage. OK for a request already dropped: the hand ORPHAN, to be put back where it came from. EMPTY for the request: CELL-EMPTY
with the place's position, and the wait. EMPTY or STOPPED after a drop: nothing more. STOPPED for the door: recorded to resume.
PLACE_COMPLETION (R136, R137, R142, R148, R151) for the PLACE in flight. OK at PLACING: the hand EMPTY, the request COMPLETING, its DONE
in the DONE list and posted. OK at step 2 of a detour: RING-NEEDED and the wait for step 4. OCCUPIED: SLOT-OCCUPIED with the position
and, for a drive slot, the drive number, the stage to resume PLACING or, of step 2 of a detour, step 2 itself (R137 names PLACING
alone: the model's choice, log 52). STOPPED for the door: recorded to resume. One of a request already dropped touches no
record (the model's reading, log 59). A put-back OK leaves the hand EMPTY; one that is OCCUPIED or STOPPED raises HAND-LOADED (the
model's reading, log 29). -/
def Obligations.PickAndPlaceComplete : Prop :=
  (∀ (s : State) (status : Word) (f : InFlight) (p : Place),
       s.station.seq.cmd = some f → f.cmd = .pick p → status.toNat / 256 % 16 = 2 →
       let x := { s.station with seq := { s.station.seq with cmd := none } }
       (∀ r c, status.toNat % 8 = 0 → f.orphan = false → x.seq.record = some r → r.stage = .picking ∨ r.stage = .detourPick →
         x.callOf r.tag = some c →
         exec (.pickCompletion status) s = .next { s with station := Station.finish { x with seq := { x.seq with
           hand := .request,
           record := some { r with pickDone := true, stage := if r.stage = .detourPick then .ring
                                                              else if c.kind = .demount then .toCell else .label } } } }) ∧
       (status.toNat % 8 = 0 → f.orphan = true ∨ x.seq.record = none →
         exec (.pickCompletion status) s =
           .next { s with station := Station.finish { x with seq := { x.seq with hand := .orphan, putBack := some p } } }) ∧
       (∀ r c, status.toNat % 8 = 1 → f.orphan = false → x.seq.record = some r → x.callOf r.tag = some c →
         let q := x.raise .cellEmpty ⟨some r.tag, some c.volume, some p.pos, none, none⟩
         exec (.pickCompletion status) s = .next { s with station := Station.finish { q.1 with seq := { q.1.seq with
           record := q.1.seq.record.map fun u => { u with stage := r.stage, waiting := some .cellEmpty, prompt := q.2 } } } }) ∧
       (status.toNat % 8 = 1 → f.orphan = true → exec (.pickCompletion status) s = .next { s with station := x.finish }) ∧
       (∀ c, status.toNat % 8 = 3 → f.causes = some c →
         exec (.pickCompletion status) s = .next { s with station := Station.finish { x with seq := { x.seq with
           resume := if c.door = true ∧ f.orphan = false ∧ f.purpose ≠ .nudge ∧ f.purpose ≠ .dropped then some (f.cmd, f.purpose) else x.seq.resume } } })) ∧
  (∀ (s : State) (status : Word) (f : InFlight) (p : Place),
       s.station.seq.cmd = some f → f.cmd = .place p → status.toNat / 256 % 16 = 3 →
       let x := { s.station with seq := { s.station.seq with cmd := none } }
       let waits (k : PromptKind) (resume : Stage) (q : Station × Option Nat) : Station := { q.1 with seq := { q.1.seq with
         record := q.1.seq.record.map fun u => { u with stage := resume, waiting := some k, prompt := q.2 } } }
       (∀ r c, f.purpose ≠ .putBack → f.orphan = false → x.seq.record = some r → x.callOf r.tag = some c →
         (status.toNat % 8 = 0 → r.stage = .placing → x.seq.doneList.length ≤ 3 →
           let d : Done := ⟨r.tag, c.kind, r.outcome, c.driveNo, c.volume, c.account, c.kind != .demount && c.ring, r.assisted⟩
           exec (.placeCompletion status) s = .next { s with station := (Station.post { x with seq := { x.seq with
             hand := .empty, record := some { r with stage := .completing, waiting := none, prompt := none },
             doneList := x.seq.doneList ++ [⟨d, none⟩] } } .sequencer 63 (.done d)).finish }) ∧
         (status.toNat % 8 = 0 → r.stage = .detourPlace →
           exec (.placeCompletion status) s = .next { s with station := (waits .ringNeeded .detourPick
             (Station.raise { x with seq := { x.seq with hand := .empty } } .ringNeeded
               ⟨some r.tag, some c.volume, none, none, none⟩)).finish }) ∧
         (status.toNat % 8 = 2 →
           exec (.placeCompletion status) s = .next { s with station := (waits .slotOccupied r.stage
             (x.raise .slotOccupied ⟨some r.tag, some c.volume, some p.pos,
               if r.stage = .placing ∧ r.dest = .drive then some c.driveNo else none, none⟩)).finish })) ∧
       (f.purpose ≠ .putBack → f.orphan = true →
         (status.toNat % 8 = 0 → exec (.placeCompletion status) s =
           .next { s with station := Station.finish { x with seq := { x.seq with hand := .empty } } }) ∧
         (status.toNat % 8 = 2 → exec (.placeCompletion status) s = .next { s with station := x.finish })) ∧
       (∀ c, f.purpose ≠ .putBack → status.toNat % 8 = 3 → f.causes = some c →
         exec (.placeCompletion status) s = .next { s with station := Station.finish { x with seq := { x.seq with
           resume := if c.door = true ∧ f.orphan = false ∧ f.purpose ≠ .nudge ∧ f.purpose ≠ .dropped then some (f.cmd, f.purpose) else x.seq.resume } } }) ∧
       (f.purpose = .putBack → status.toNat % 8 = 0 → x.seq.handPrompt = none →
         exec (.placeCompletion status) s = .next { s with station := Station.finish { x with seq := { x.seq with
           hand := .empty, putBack := none, handRaiseOwed := false, handReportOwed := false } } }) ∧
       (f.purpose = .putBack → status.toNat % 8 = 2 ∨ (status.toNat % 8 = 3 ∧ f.causes ≠ none) → x.seq.hand = .orphan →
         x.seq.handPrompt = none → x.seq.handRaiseOwed = false → x.seq.handReportOwed = false → x.seq.fault = none →
         let q := Station.raise { x with seq := { x.seq with putBack := none } } .handLoaded
           ⟨none, none, some (x.seq.pos.getD 0), none, none⟩
         exec (.placeCompletion status) s = .next { s with station := Station.finish { q.1 with seq := { q.1.seq with
           handPrompt := q.2, handRaiseOwed := q.2.isNone } } }))

/-- READ_LABEL_COMPLETION and RING_CHECK_COMPLETION that are OK (R126, R135, R136). A readable label of six characters equal to the volume
serial sends the request to RING, or to TO-DRIVE when no ring is wanted; any other raises SERIAL-MISMATCH. A ring word of 0 starts the
detour, any other sends the request to TO-DRIVE. (A result word other than 0 and 1 counts as 1, of which R126 gives no other meaning: the
model's reading, log 42.) That of a request already dropped is of no stage and touches nothing (the model's reading, log 59). -/
def Obligations.LabelAndRingComplete : Prop :=
  (∀ (s : State) (status : Word) (f : InFlight) (r : ReqRecord) (c : Call),
    s.station.seq.cmd = some f → f.orphan = false → status.toNat % 8 = 0 → s.station.seq.record = some r →
    s.station.callOf r.tag = some c →
    let x := { s.station with seq := { s.station.seq with cmd := none } }
    let go (stage : Stage) : State := { s with station := Station.finish { x with seq := { x.seq with record := some { r with stage := stage } } } }
    let chars (a b d : Word) : List Byte := [(a >>> 8).truncate 8, a.truncate 8, (b >>> 8).truncate 8, b.truncate 8,
      (d >>> 8).truncate 8, d.truncate 8]
    (∀ a b d, f.cmd = .readLabel → status.toNat / 256 % 16 = 4 → serialOk c.volume = true → chars a b d = c.volume →
      exec (.readLabelCompletion status 0 a b d) s = .next (go (if c.ring then .ring else .toDrive))) ∧
    (∀ u a b d, f.cmd = .readLabel → status.toNat / 256 % 16 = 4 → u ≠ 0 ∨ chars a b d ≠ c.volume →
      let q := x.raise .serialMismatch ⟨some r.tag, some c.volume, none, none, none⟩
      exec (.readLabelCompletion status u a b d) s = .next { s with station := Station.finish { q.1 with seq := { q.1.seq with
        record := q.1.seq.record.map fun u => { u with stage := .label, waiting := some .serialMismatch, prompt := q.2 } } } }) ∧
    (f.cmd = .ringCheck → status.toNat / 256 % 16 = 5 →
      exec (.ringCheckCompletion status 0) s = .next (go .detourTravel) ∧
      ∀ present, present ≠ 0 → exec (.ringCheckCompletion status present) s = .next (go .toDrive))) ∧
  (∀ (s : State) (status : Word) (f : InFlight), s.station.seq.cmd = some f → f.orphan = true → status.toNat % 8 = 0 →
    let x := { s.station with seq := { s.station.seq with cmd := none } }
    (∀ u a b d, f.cmd = .readLabel → status.toNat / 256 % 16 = 4 →
      exec (.readLabelCompletion status u a b d) s = .next { s with station := x.finish }) ∧
    (∀ present, f.cmd = .ringCheck → status.toNat / 256 % 16 = 5 →
      exec (.ringCheckCompletion status present) s = .next { s with station := x.finish }))

/-- REPORT_COMPLETION that is OK (R105, R129, R145 to R147, R151): the position known, the hand by the table (that every REPORT that
completes OK brings the hand into line is the model's reading, log 30). With no fault and nothing to resume but a TRAVEL, which its fresh
reservation takes up, an empty gripper leaves the hand EMPTY; and a loaded one with no put-back and no HAND-LOADED standing has it raised,
after the own SPAN is posted (the model's choice, log 73).
After RETRY the fault closes and the condition clears, a command that is not done being left to its stage, its put-back or its move.
After RELEASE so too with the gripper empty; with it loaded the hand is ORPHAN, the fault stays open without an answer, and CARRIAGE-FAULT
is raised again with no tag. What RETRY and a door release take as done: CommandIsTakenUp. The own entry is stated with the fresh mark as
it stands, its restatement 2 s away (R54, R106). A position reported in PARKED makes it the rest span, PARKED or FIXED, stated where ends
or kind are new (R54, R105); so it does in WAITING, whose move is evaluated (R116); in ASKING a new rest position has the new wanted span
stated, and in GRANTED it changes nothing else (the model's reading and choice, log 24). The clearing of the last of HELD and FAULTED
states the rest span and is a rescan point (R58, R94, R107). -/
def Obligations.ReportCompletes : Prop :=
  (handAfter .empty false = .empty ∧ handAfter .empty true = .orphan ∧ handAfter .request true = .request ∧
    handAfter .request false = .empty ∧ handAfter .orphan false = .empty ∧ handAfter .orphan true = .orphan) ∧
  (∀ (s : State) (status pos loaded : Word) (f : InFlight),
    s.station.seq.cmd = some f → f.cmd = .report → status.toNat / 256 % 16 = 6 → status.toNat % 8 = 0 →
    let hand := handAfter s.station.seq.hand (loaded != 0)
    let x := { s.station with seq := { s.station.seq with cmd := none, pos := some pos.toNat, posKnown := true, hand := hand } }
    let emptied (y : Station) : Station := { y with seq := { y.seq with
      hand := .empty, putBack := none, handPrompt := none, handRaiseOwed := false, handReportOwed := false } }
    let open_ (y : Station) : Station := { y with seq := { y.seq with fault := none } }
    (x.seq.fault = none → x.seq.resume = none ∨ (∃ t p, x.seq.resume = some (.travel t, p) ∧ p ≠ .putBack) → loaded = 0 →
      x.seq.handPrompt = none →
      exec (.reportCompletion status pos loaded) s = .next { s with station := (emptied (x.reportPosition pos.toNat)).finish }) ∧
    (x.seq.fault = none → x.seq.resume = none → loaded ≠ 0 → hand = .orphan → x.seq.putBack = none → x.seq.handPrompt = none →
      x.seq.handRaiseOwed = false → x.seq.handReportOwed = false → x.span.reservation = .parked →
      let q := (x.reportPosition pos.toNat).raise .handLoaded ⟨none, none, some pos.toNat, none, none⟩
      exec (.reportCompletion status pos loaded) s = .next { s with station := Station.finish { q.1 with seq := { q.1.seq with
        handPrompt := q.2, handRaiseOwed := q.2.isNone } } }) ∧
    (∀ g, x.seq.fault = some g → g.answer = some .retry → x.seq.resume = none → loaded = 0 → x.seq.handPrompt = none →
      (g.cmd = .readLabel ∨ g.cmd = .ringCheck ∨ g.cmd = .report ∨ (∃ t, g.cmd = .travel t) ∨ (∃ p, g.cmd = .pick p) ∨
        ((∃ p, g.cmd = .place p) ∧ g.purpose = .putBack)) →
      exec (.reportCompletion status pos loaded) s =
        .next { s with station := (emptied ((open_ x).reportPosition pos.toNat).conditionCleared).finish }) ∧
    (∀ g, x.seq.fault = some g → g.answer = some .release → loaded = 0 → x.seq.handPrompt = none →
      exec (.reportCompletion status pos loaded) s =
        .next { s with station := (emptied ((open_ x).reportPosition pos.toNat).conditionCleared).finish }) ∧
    (∀ g, x.seq.fault = some g → g.answer = some .release → loaded ≠ 0 →
      let q := (Station.reportPosition { x with seq := { x.seq with
        hand := .orphan, fault := some ⟨g.cmd, g.purpose, none, none, false, false, true⟩ } } pos.toNat).raise .carriageFault
          ⟨none, none, some pos.toNat, none, none⟩
      exec (.reportCompletion status pos loaded) s = .next { s with station := Station.finish { q.1 with seq := { q.1.seq with
        fault := some ⟨g.cmd, g.purpose, q.2, none, false, q.2.isNone, true⟩ } } })) ∧
  (∀ (s : Station) (o : OwnSpan), s.stateOwn o = Station.settle { s with span := { s.span with own := some o, restateTimer := some 200 } }
    (s.liu.postSpan ((Msg.span s.k o.kind o.lo o.hi s.span.fresh o.reassert).frame s.cv.address 63)) []) ∧
  (∀ (s : Station) (p : Nat),
    let kind : SpanKind := if s.seq.doorLatch || s.seq.fault.isSome || !s.cv.inBand s.k p then .fixed else .parked
    let rest : OwnSpan := ⟨p - s.cv.H, min (p + s.cv.H) 65535, kind, false⟩
    let told (y : Station) : Station :=
      if (∃ o, y.span.own = some o ∧ o.lo = rest.lo ∧ o.hi = rest.hi ∧ o.kind = rest.kind) then y else y.stateOwn rest
    let y := { s with span := { s.span with rest := some p } }
    (s.span.reservation = .parked → s.reportPosition p = told y) ∧
    (s.span.reservation = .waiting → s.reportPosition p = (told y).evaluate) ∧
    (∀ m, s.span.reservation = .asking → s.span.move = some m →
      (s.span.rest = some p → s.reportPosition p = y) ∧
      (s.span.rest ≠ some p →
        s.reportPosition p = y.stateOwn ⟨min p m.target - s.cv.H, min (max p m.target + s.cv.H) 65535, .moving, false⟩)) ∧
    (s.span.reservation = .granted → s.reportPosition p = y) ∧
    (s.seq.doorLatch = true ∨ s.seq.fault ≠ none → s.conditionCleared = s) ∧
    (s.seq.doorLatch = false → s.seq.fault = none →
      let point (y : Station) : Station := { y with req := { y.req with rescan := true } }
      (s.span.rest = none → s.conditionCleared = point s) ∧
      (s.span.rest = some p → s.conditionCleared = point (told s))))

/-- What is taken as done when a REPORT completes OK after RETRY, or after a door release for the command recorded to resume (R146, R150). A
PICK with the gripper loaded: the hand REQUEST, pick completion set, the next stage; for a request gone meanwhile the reel is an ORPHAN to
be put back (R151 could be read to raise HAND-LOADED instead: the model's reading, log 31). A PLACE with the gripper empty: at PLACING the
request is COMPLETING and its DONE posted, at step 2 of a detour RING-NEEDED is raised. A PICK with the gripper empty, a PLACE with it
loaded, READ-LABEL and RING-CHECK are not done: their stage stands and issues them again. A request in WAIT-OPERATOR, whose PICK
completed EMPTY or whose PLACE completed OCCUPIED before the STOP failed, stays there with its prompt (R139, R144), whatever the gripper
holds: a reel found in an EMPTY hand is an ORPHAN for HAND-LOADED (R146 alone would take the command as completed OK: the model's choice,
log 70). -/
def Obligations.CommandIsTakenUp : Prop :=
  ∀ (s : State) (status pos loaded : Word) (f : InFlight) (c : Command) (u : Purpose) (y : Station),
    s.station.seq.cmd = some f → f.cmd = .report → status.toNat / 256 % 16 = 6 → status.toNat % 8 = 0 →
    let hand := handAfter s.station.seq.hand (loaded != 0)
    let x := { s.station with seq := { s.station.seq with cmd := none, pos := some pos.toNat, posKnown := true, hand := hand } }
    let shut : Station := { x with seq := { x.seq with fault := none } }
    let told := x.reportPosition pos.toNat
    (∃ g, x.seq.fault = some g ∧ g.answer = some .retry ∧ g.cmd = c ∧ g.purpose = u ∧ x.seq.resume = none ∧
        y = (shut.reportPosition pos.toNat).conditionCleared) ∨
      (x.seq.fault = none ∧ x.seq.resume = some (c, u) ∧ (∀ t, c ≠ .travel t) ∧
        y = { told with seq := { told.seq with resume := none } }) →
    let emptied (y : Station) : Station := { y with seq := { y.seq with
      hand := .empty, putBack := none, handPrompt := none, handRaiseOwed := false, handReportOwed := false } }
    (∀ place r call, c = .pick place → loaded ≠ 0 → y.seq.record = some r → r.stage = .picking ∨ r.stage = .detourPick →
      r.waiting = none → y.callOf r.tag = some call →
      exec (.reportCompletion status pos loaded) s = .next { s with station := Station.finish { y with seq := { y.seq with
        hand := .request, record := some { r with
          pickDone := true
          stage := if r.stage = .detourPick then .ring else if call.kind = .demount then .toCell else .label } } } }) ∧
    (∀ place, c = .pick place → loaded ≠ 0 → hand = .orphan → y.seq.record = none →
      exec (.reportCompletion status pos loaded) s = .next { s with station := Station.finish { y with seq := { y.seq with
        putBack := some place } } }) ∧
    (∀ place r call, c = .place place → u ≠ .putBack → loaded = 0 → x.seq.handPrompt = none → y.seq.record = some r →
      r.waiting = none → y.callOf r.tag = some call →
      (r.stage = .placing → y.seq.doneList.length ≤ 3 →
        let d : Done := ⟨call.tag, call.kind, r.outcome, call.driveNo, call.volume, call.account, call.kind != .demount && call.ring,
          r.assisted⟩
        exec (.reportCompletion status pos loaded) s = .next { s with station := (emptied (Station.post { y with seq := { y.seq with
          record := some { r with stage := .completing, waiting := none, prompt := none },
          doneList := y.seq.doneList ++ [⟨d, none⟩] } } .sequencer 63 (.done d))).finish }) ∧
      (r.stage = .detourPlace →
        let q := y.raise .ringNeeded ⟨some r.tag, some call.volume, none, none, none⟩
        exec (.reportCompletion status pos loaded) s = .next { s with station := (emptied { q.1 with seq := { q.1.seq with
          record := q.1.seq.record.map fun v => { v with stage := .detourPick, waiting := some .ringNeeded, prompt := q.2 } } }).finish })) ∧
    (∀ r k, y.seq.record = some r → r.waiting = some k →
      (∀ place, c = .place place → u ≠ .putBack → loaded = 0 → x.seq.handPrompt = none →
        exec (.reportCompletion status pos loaded) s = .next { s with station := (emptied y).finish }) ∧
      (∀ place, c = .pick place → r.stage = .picking ∨ r.stage = .detourPick → loaded ≠ 0 →
        (hand = .request → exec (.reportCompletion status pos loaded) s = .next { s with station := y.finish }) ∧
        (hand = .orphan → y.seq.putBack = none → y.seq.handPrompt = none → y.seq.handRaiseOwed = false → y.seq.handReportOwed = false →
          let q := y.raise .handLoaded ⟨none, none, some pos.toNat, none, none⟩
          exec (.reportCompletion status pos loaded) s = .next { s with station := Station.finish { q.1 with seq := { q.1.seq with
            handPrompt := q.2, handRaiseOwed := q.2.isNone } } }))) ∧
    (c = .readLabel ∨ c = .ringCheck ∨ (∃ place, c = .pick place) → loaded = 0 → x.seq.handPrompt = none →
      exec (.reportCompletion status pos loaded) s = .next { s with station := (emptied y).finish }) ∧
    (c = .readLabel ∨ c = .ringCheck ∨ (∃ place, c = .place place) → loaded ≠ 0 → hand = .request →
      exec (.reportCompletion status pos loaded) s = .next { s with station := y.finish })

/-- Faults (R126 to R128, R144). A status word that names no outstanding command is disregarded. A FAULT completion, a code of 5 to 7, a code
not valid for the command, a command timer that runs out, and a STOP that fails or runs out open a fault for the command. A STOP that is
OK is no longer outstanding. Opening a fault ends every outstanding command, sets the fault record with the command and its purpose,
makes the position unknown after a TRAVEL, and ends every move and held nudge; CARRIAGE-FAULT carries the tag of the ACTIVE request. The
learning REPORT that fails (R55) leaves the position unknown, with the own entry FIXED over the whole stretch the carriage could occupy,
fresh as it is posted, and its centre the last position, which CARRIAGE-FAULT carries. (A
command recorded to resume whose STOP failed is the failed command and is resumed no more: the model's reading, log 57.) -/
def Obligations.FaultsOpen : Prop :=
  (∀ (s : State) (i : Instr) (code : Nat) (status : Word), completionRow i = some (code, status) →
    let x := { s.station with seq := { s.station.seq with cmd := none } }
    ((∀ f, s.station.seq.cmd = some f → f.cmd.code ≠ code ∨ status.toNat / 256 % 16 ≠ code) → exec i s = .next s) ∧
    (∀ f, s.station.seq.cmd = some f → f.cmd.code = code → status.toNat / 256 % 16 = code →
      4 ≤ status.toNat % 8 ∨ (status.toNat % 8 = 1 ∧ code ≠ 2) ∨ (status.toNat % 8 = 2 ∧ code ≠ 3) ∨
        (status.toNat % 8 = 3 ∧ f.causes = none) →
      exec i s = .next { s with station := (x.openFault f.cmd f.purpose).finish })) ∧
  (∀ s : State,
    (∀ f, s.station.seq.cmd = some f → f.timer = 0 →
      exec .commandTimeout s = .next { s with station := (s.station.openFault f.cmd f.purpose).finish }) ∧
    (∀ r, s.station.seq.stop = some r → r.timer = 0 → (∀ f, s.station.seq.cmd = some f → f.timer ≠ 0) →
      exec .commandTimeout s = .next { s with station := (s.station.openFault r.target r.purpose).finish }) ∧
    (∀ r (status : Word), s.station.seq.stop = some r → status.toNat / 256 % 16 = 7 →
      exec (.stopCompletion status) s = .next { s with station :=
        (if status.toNat % 8 = 0 then { s.station with seq := { s.station.seq with stop := none } }
         else s.station.openFault r.target r.purpose).finish }) ∧
    (∀ status : Word, s.station.seq.stop = none ∨ status.toNat / 256 % 16 ≠ 7 → exec (.stopCompletion status) s = .next s)) ∧
  (∀ (s : Station) (c : Command) (p : Purpose) (o : OwnSpan), s.seq.fault = none → s.span.own = some o →
    let y := s.openFault c p
    y.seq.cmd = none ∧ y.seq.stop = none ∧
    (∃ num, y.seq.fault = some ⟨c, p, num, none, false, num.isNone, false⟩ ∧
      ∀ n, num = some n → ∃ e ∈ y.prm.list, e.num = n ∧ e.kind = .carriageFault ∧ e.fields.tag = s.req.active) ∧
    y.seq.posKnown = (match c with | .travel _ => false | _ => s.seq.posKnown) ∧ y.seq.hand = s.seq.hand ∧
    y.seq.record = s.seq.record ∧ y.seq.resume = (if s.seq.resume = some (c, p) then none else s.seq.resume) ∧
    y.span.reservation = .parked ∧ y.span.move = none ∧ y.span.held = []) ∧
  (∀ (s : Station) (p : Purpose), s.seq.fault = none → s.span.own = none →
    let lo := s.cv.railLo + s.k * (2 * s.cv.H + s.cv.G) - s.cv.H
    let hi := min (s.cv.railHi - (s.cv.n - 1 - s.k) * (2 * s.cv.H + s.cv.G) + s.cv.H) 65535
    let y := Station.stateOwn { s with seq := { s.seq with
      cmd := none, stop := none, fault := some ⟨.report, p, none, none, false, false, false⟩, pos := some ((lo + hi) / 2),
      resume := if s.seq.resume = some (.report, p) then none else s.seq.resume } } ⟨lo, hi, .fixed, false⟩
    let q := y.raise .carriageFault ⟨y.req.active, none, some ((lo + hi) / 2), none, none⟩
    s.openFault .report p =
      { q.1 with seq := { q.1.seq with fault := some ⟨.report, p, q.2, none, false, q.2.isNone, false⟩ } })

/-- HELD or FAULTED set ends every move (R107): the reservation PARKED, no move, retries 0, held nudges discarded, the RAIL-BLOCKED record
gone; the own entry FIXED with its reassert flag clear, over the granted span where a grant ended here, the rest position then unknown,
and over the rest span otherwise. DOOR_OPEN, DOOR_CLOSE and DOOR_RAISE_TIMER (R128, R148, R149). In READY with the latch clear an opening
sets the latch and the raise timer of k seconds, has STOP issued for the command in flight, and holds the span; any other change of DOOR
changes the level alone. At the timer's end with the latch set and no peer's DOOR-OPEN heard, DOOR-OPEN is raised, its raised mark
set where the raise is accepted (that a refused one sets none is the model's choice, log 74). -/
def Obligations.DoorAndHold : Prop :=
  (∀ (s : Station) (o : OwnSpan), s.span.own = some o →
       let y := s.holdSpan
       y.span.reservation = .parked ∧ y.span.move = none ∧ y.span.retries = 0 ∧ y.span.waitTimer = none ∧ y.span.held = [] ∧
       y.span.railLatch = false ∧ y.span.railPrompt = none ∧ y.span.peers = s.span.peers ∧ y.ctl = s.ctl ∧ y.store = s.store ∧
       (s.span.reservation = .granted → y.span.rest = none ∧ y.span.own = some ⟨o.lo, o.hi, .fixed, false⟩) ∧
       (s.span.reservation ≠ .granted → y.span.rest = s.span.rest ∧
         (∀ p, s.span.rest = some p → y.span.own = some ⟨p - s.cv.H, min (p + s.cv.H) 65535, .fixed, false⟩) ∧
         (s.span.rest = none → y.span.own = some ⟨o.lo, o.hi, .fixed, false⟩))) ∧
  (∀ s : State,
       let x := s.station
       let opened : Station := { x with pins := { x.pins with door := true } }
       let timed (y : Station) : Station := { y with seq := { y.seq with doorLatch := true, door := { y.seq.door with timer := some (100 * x.k) } } }
       (x.pins.door = false → x.ctl.mode ≠ .ready ∨ x.seq.doorLatch = true → exec .doorOpen s = .next { s with station := opened }) ∧
       (x.pins.door = false → x.ctl.mode = .ready → x.seq.doorLatch = false → x.seq.cmd = none →
         exec .doorOpen s = .next { s with station := (timed opened).holdSpan.finish }) ∧
       (∀ f, x.pins.door = false → x.ctl.mode = .ready → x.seq.doorLatch = false → x.seq.cmd = some f → f.causes = none → x.seq.stop = none →
         exec .doorOpen s = .next { s with station := (Station.holdSpan { timed opened with seq := { (timed opened).seq with
           cmd := some { f with causes := some ⟨true, false, false⟩ }, stop := some ⟨100, f.cmd, f.purpose⟩ } }).finish }) ∧
       exec .doorClose s = .next { s with station := { x with pins := { x.pins with door := false } } } ∧
       (x.seq.door.timer = some 0 →
         let y := { x with seq := { x.seq with door := { x.seq.door with timer := none } } }
         (x.seq.doorLatch = false ∨ x.seq.door.heard = true → exec .doorRaiseTimer s = .next { s with station := y.finish }) ∧
         (x.seq.doorLatch = true → x.seq.door.heard = false →
           let q := y.raise .doorOpen ⟨none, none, none, none, none⟩
           exec .doorRaiseTimer s = .next { s with station := Station.finish { q.1 with seq := { q.1.seq with door := { q.1.seq.door with
             raised := q.1.seq.door.raised || q.2.isSome, prompt := q.2, raiseOwed := q.2.isNone } } } })))

/-- The Sequencer's next step and the rescan, which end an event (R94, R95, R125, R127, R130, R131, R133 to R139, R144, R151). In READY with
no command and no STOP outstanding: a grant has its TRAVEL issued (with an ORPHAN reel in the hand too: the model's choice, log 67). Without a nudge in hand, nothing while the latch is set or a fault has
no answer; REPORT while the position is unknown; a put-back's PLACE at its place; LOAD-WAIT raises LOAD-WINDOW and waits with TO-SOURCE
to resume; and the stage's own command at its place: the source of a mount or the drive of a demount, the window in a detour, the
destination (the drive, the return place, the source place or the window, as the record has it). A stage
elsewhere asks its move, which with no peer is stated at once as MOVING; and so does one whose TRAVEL the door stopped, a put-back and the
move home likewise, even where the carriage stands at the target: such a TRAVEL is always resumed through a fresh reservation (R150; which
ones are, is the model's reading, log 56). At a rescan point, with neither HELD nor FAULTED set and
capacity left, the HEARD call that can be reached is offered on. -/
def Obligations.NextStepIsChosen : Prop :=
  ∀ s : Station, s.ctl.mode = .ready → s.seq.cmd = none → s.seq.stop = none →
    let issued (y : Station) (c : Command) (p : Purpose) (t : Nat) : Station :=
      { y with seq := { y.seq with cmd := some ⟨c, p, t, none, false⟩ } }
    let nudgeless := (s.span.reservation ≠ .granted ∨ s.span.move = none) ∧ s.span.held = [] ∧
      ∀ m, s.span.move = some m → m.purpose ≠ .nudge
    let fit := nudgeless ∧ s.seq.doorLatch = false ∧ s.seq.fault = none
    let still := fit ∧ s.seq.posKnown = true ∧ s.seq.doorReportOwed = false ∧ s.seq.handReportOwed = false ∧ s.span.move = none
    let placed := still ∧ s.cv.inBand s.k (s.seq.pos.getD 0) = true ∧ ∀ t u, s.seq.resume ≠ some (.travel t, u)
    let dest (r : ReqRecord) (c : Call) (d : Place) : Prop := (r.dest = .drive ∧ d = c.drive) ∨ (r.dest = .window ∧ d = s.cv.windowPlace) ∨
      ∃ q, ((r.dest = .ret ∧ c.ret = some q) ∨ (r.dest = .source ∧ c.source = some q)) ∧ d = if q.window = true then s.cv.windowPlace else q
    let carries (r : ReqRecord) (c : Call) : Prop := (r.stage = .toDrive ∧ c.kind ≠ .demount) ∨ r.stage = .toCell ∨ r.stage = .placing
    (∀ m, s.span.reservation = .granted → s.span.move = some m → s.chooseNext =
      issued s (.travel m.target) m.purpose (2 * s.cv.travel (dist (s.seq.pos.getD 0) m.target) + 200)) ∧
    (nudgeless → s.seq.doorLatch = true → s.chooseNext = s) ∧
    (∀ f, nudgeless → s.seq.fault = some f → f.answer = none → s.chooseNext = s) ∧
    (fit → s.seq.posKnown = false ∨ s.seq.doorReportOwed = true ∨ s.seq.handReportOwed = true → s.chooseNext =
      issued { s with seq := { s.seq with doorReportOwed := false, handReportOwed := false } } .report .check 100) ∧
    (∀ p, placed → s.seq.hand = .orphan → s.seq.putBack = some p → s.seq.pos = some p.pos →
      s.chooseNext = issued s (.place p) .putBack 800) ∧
    (placed → s.seq.hand ≠ .orphan → s.seq.record = none → s.chooseNext = s) ∧
    (∀ r c, placed → s.seq.hand ≠ .orphan → s.seq.record = some r → s.callOf r.tag = some c →
      (r.waiting ≠ none ∨ r.stage = .completing → s.chooseNext = s) ∧
      (r.waiting = none →
        (r.stage = .label → s.chooseNext = issued s .readLabel .stage 300) ∧
        (r.stage = .ring → s.chooseNext = issued s .ringCheck .stage 200) ∧
        (r.stage = .toSource ∨ r.stage = .picking → s.seq.pos = some (s.cv.sourceOf c).pos → s.chooseNext =
          issued { s with seq := { s.seq with record := some { r with stage := .picking } } } (.pick (s.cv.sourceOf c)) .stage 800) ∧
        (r.stage = .detourTravel ∨ r.stage = .detourPlace → s.seq.pos = some s.cv.windowPos → s.chooseNext =
          issued { s with seq := { s.seq with record := some { r with stage := .detourPlace } } } (.place s.cv.windowPlace) .stage 800) ∧
        (r.stage = .detourPick → s.seq.pos = some s.cv.windowPos → s.chooseNext = issued s (.pick s.cv.windowPlace) .stage 800) ∧
        (r.stage = .toDrive → c.kind = .demount → s.seq.pos = some c.drive.pos → s.chooseNext =
          issued { s with seq := { s.seq with record := some { r with stage := .picking } } } (.pick c.drive) .stage 800) ∧
        (∀ d, dest r c d → carries r c → s.seq.pos = some d.pos → s.chooseNext =
          issued { s with seq := { s.seq with record := some { r with stage := .placing } } } (.place d) .stage 800) ∧
        (r.stage = .loadWait →
          let q := s.raise .loadWindow ⟨some r.tag, some c.volume, none, none, none⟩
          s.chooseNext = { q.1 with seq := { q.1.seq with record := q.1.seq.record.map fun u =>
            { u with stage := .toSource, waiting := some .loadWindow, prompt := q.2 } } }) ∧
        (∀ p d, (r.stage = .toSource ∨ r.stage = .picking) ∧ d = s.cv.sourceOf c ∨
            (r.stage = .detourTravel ∨ r.stage = .detourPlace ∨ r.stage = .detourPick) ∧ d = s.cv.windowPlace ∨
            (r.stage = .toDrive ∧ c.kind = .demount) ∧ d = c.drive ∨ carries r c ∧ dest r c d →
          s.seq.pos = some p → p ≠ d.pos →
          s.seq.moveRefused = false → s.span.rest = some p → s.span.reservation = .parked → s.cv.inBand s.k d.pos = true →
          s.span.peers = [] → s.chooseNext =
            Station.stateOwn { s with span := { s.span with
              move := some ⟨d.pos, .stage⟩, retries := 0, reservation := .asking, waitTimer := none, firstFree := false } }
              ⟨min p d.pos - s.cv.H, min (max p d.pos + s.cv.H) 65535, .moving, false⟩))) ∧
    (∀ p t u, still → s.seq.resume = some (.travel t, u) →
      (u = .home ∨ s.cv.inBand s.k (s.seq.pos.getD 0) = true) →
      (u = .putBack → s.seq.hand = .orphan ∧ ∃ place, s.seq.putBack = some place ∧ place.pos = t) →
      (u = .stage → s.seq.hand ≠ .orphan ∧ ∃ r c place, s.seq.record = some r ∧ s.callOf r.tag = some c ∧ r.waiting = none ∧
        s.stagePlace r c = some place ∧ place.pos = t) → u ≠ .nudge → u ≠ .check → u ≠ .dropped →
      s.seq.moveRefused = false → s.span.rest = some p → s.span.reservation = .parked → s.cv.inBand s.k t = true →
      s.span.peers = [] →
      let q := Station.stateOwn { s with span := { s.span with
        move := some ⟨t, u⟩, retries := 0, reservation := .asking, waitTimer := none, firstFree := false } }
        ⟨min p t - s.cv.H, min (max p t + s.cv.H) 65535, .moving, false⟩
      s.chooseNext = { q with seq := { q.seq with resume := none } }) ∧
    (s.req.rescan = true →
      let y := { s with req := { s.req with rescan := false } }
      (s.seq.doorLatch = true ∨ s.seq.fault ≠ none ∨ s.req.capacity = 0 → s.doRescan = y) ∧
      (∀ e cost base, s.seq.doorLatch = false → s.seq.fault = none → 1 ≤ s.req.capacity →
        s.req.table.filter (fun e => e.state = .heard) = [e] →
        (y.cost e.call = none → s.doRescan = y) ∧
        (y.cost e.call = some (cost, base) → s.doRescan = Station.post { y with req := { y.req with
          table := y.req.table.map fun u => if u.call.tag = e.call.tag then
            { u with state := .bidding, ownOffer := some ⟨cost, base, false⟩ } else u } } .request 63 (.offer e.call.tag cost s.k))))

/-- The ACTIVE request dropped (R115, R143) and RELEASE carried out (R147). A drop of another tag, or with no record, changes nothing. The
drop of the record's request withdraws its prompt in WAIT-OPERATOR; gives up a stage's move in WAITING or ASKING; leaves one in GRANTED
to go on for no request (the model's reading, log 62); has STOP issued for a stage's TRAVEL in flight; leaves any other command of the stage to complete for no request; and clears the record and a stage's command to
resume. With the door latch clear, RETRY has the release REPORT issued; RELEASE first abandons every OWNED request with no DONE in the
DONE list: its bound prompt withdrawn, DONE ABANDONED with the fields of the call in the DONE list and posted; then the record is cleared
with all that was left to take up, and a reel held is a reel of no request (the model's reading, log 28). A DONE list of 4 loses its
oldest record of a request no longer owned (R142). -/
def Obligations.RequestsAreGivenUp : Prop :=
  (∀ (s : Station) (t : Tag),
    (∀ r, s.seq.record = some r → r.tag ≠ t) → s.dropRequest t = s) ∧
  (∀ (s : Station) (r : ReqRecord), s.seq.record = some r →
    let gone (y : Station) : Station := { y with seq := { y.seq with
      record := none, moveRefused := false, resume := if y.seq.resume.any (fun x => x.2 == .stage) then none else y.seq.resume } }
    let parked (y : Station) : Station := { y with span := { y.span with
      reservation := .parked, move := none, retries := 0, waitTimer := none, firstFree := false } }
    let left : Station := if s.span.reservation = .granted then { s with span := { s.span with
        move := s.span.move.map fun m => if m.purpose = .stage then { m with purpose := .dropped } else m } } else s
    let noMove := s.span.reservation = .granted ∨ s.span.reservation = .parked ∨ ∀ m, s.span.move = some m → m.purpose ≠ .stage
    (∀ num, r.waiting ≠ none → r.prompt = some num → (∀ m, s.span.move = some m → m.purpose ≠ .stage) → s.seq.cmd = none →
      s.dropRequest r.tag = gone (s.withdrawPrompt .sequencer num)) ∧
    (r.waiting = none ∨ r.prompt = none →
      (noMove → (∀ f, s.seq.cmd = some f → f.purpose ≠ .stage) → s.dropRequest r.tag = gone left) ∧
      (∀ f, noMove → s.seq.cmd = some f → f.purpose = .stage →
        ((∀ d, f.cmd ≠ .travel d) →
          s.dropRequest r.tag = gone { left with seq := { s.seq with cmd := some { f with orphan := true } } }) ∧
        (∀ d, f.cmd = .travel d → s.dropRequest r.tag = gone { left with seq := { s.seq with
          cmd := some { f with
            orphan := true
            causes := some (match f.causes with | some c => StopCauses.mk c.door c.lost true | none => ⟨false, false, true⟩) },
          stop := if s.seq.stop = none then some ⟨100, .travel d, .stage⟩ else s.seq.stop } })) ∧
      (∀ m, s.seq.cmd = none → s.span.move = some m → m.purpose = .stage →
        (s.span.reservation = .waiting → s.dropRequest r.tag = gone (parked s).clearRailBlocked) ∧
        (s.span.reservation = .asking → s.dropRequest r.tag = gone (Station.clearRailBlocked (Station.postOwn
          (parked { s with liu := s.liu.withdrawSpan.1, span := { s.span with
            own := match s.span.rest with
              | some p => some ⟨p - s.cv.H, min (p + s.cv.H) 65535,
                  if s.seq.doorLatch || s.seq.fault.isSome || !s.cv.inBand s.k p then .fixed else .parked, false⟩
              | none => s.span.own } })))))) ) ∧
  (∀ (s : Station) (f : FaultRecord), s.ctl.mode = .ready → s.seq.cmd = none → s.seq.stop = none → s.seq.doorLatch = false →
    s.span.reservation ≠ .granted ∨ s.span.move = none → s.span.held = [] → (∀ m, s.span.move = some m → m.purpose ≠ .nudge) →
    s.seq.fault = some f →
    let report : Option InFlight := some ⟨.report, .check, 100, none, false⟩
    let y := s.abandonable.foldl Station.abandon s
    (f.answer = some .retry →
      s.chooseNext = { s with seq := { s.seq with fault := some { f with reporting := true }, cmd := report } }) ∧
    (f.answer = some .release →
      s.chooseNext = { y with seq := { y.seq with
        record := none, hand := if y.seq.hand = .request then .orphan else y.seq.hand, putBack := none, resume := none,
        fault := some { f with cmd := .report, purpose := .check, reporting := true }, cmd := report } })) ∧
  (∀ (s : Station) (t : Tag),
    (t ∈ s.abandonable ↔ t ∈ s.req.owned ∧ (∃ e, s.req.find t = some e ∧ e.state = .owned) ∧ ∀ d ∈ s.seq.doneList, d.done.tag ≠ t) ∧
    ∀ c, s.callOf t = some c →
      let d (assisted : Bool) : Done := ⟨c.tag, c.kind, .abandoned, c.driveNo, c.volume, c.account, c.kind != .demount && c.ring, assisted⟩
      ((∀ r, s.seq.record = some r → r.tag ≠ t) → s.abandon t = s.postDone (d false)) ∧
      (∀ r, s.seq.record = some r → r.tag = t →
        (r.waiting = none → s.abandon t = s.postDone (d r.assisted)) ∧
        (∀ num, r.waiting ≠ none → r.prompt = some num →
          s.abandon t = (s.withdrawPrompt .sequencer num).postDone (d r.assisted)))) ∧
  (∀ (s : Station) (d : Done),
    let posted (l : List DoneRecord) : Station :=
      Station.post { s with seq := { s.seq with doneList := l ++ [⟨d, none⟩] } } .sequencer 63 (.done d)
    (s.seq.doneList.length ≤ 3 → s.postDone d = posted s.seq.doneList) ∧
    (∀ front x back, 4 ≤ s.seq.doneList.length → s.seq.doneList = front ++ x :: back → s.req.owns x.done.tag = false →
      (∀ v ∈ front, s.req.owns v.done.tag = true) → s.postDone d = posted (front ++ back)))

/-! ## 08_operator_prompts.md -/

/-- A raise (R154 to R156, R158, R159, R172), where no entry holds the next number. With a place free the entry joins the end of the list
under that number: SHOWN and stated where the list was empty; QUEUED behind a SHOWN entry of its level or a higher one; and before a
lower one it preempts, the PROMPT-CLEAR posted first. A general raise that finds the six general places full displaces their oldest NOTICE:
that leaves the list, with a PROMPT-CLEAR WITHDRAWN where it was SHOWN, and another is chosen to be SHOWN; its raising unit is told, the
Accounting Unit's record being WANTED once more and given up the second time (R189); and the raise is taken into the place freed. It is
refused where they hold no NOTICE. With no entry SHOWN, the oldest of the highest level is shown and stated. -/
def Obligations.RaiseIsTaken : Prop :=
  ∀ (s : Station) (k : PromptKind) (f : PromptFields), (∀ e ∈ s.prm.list, e.num ≠ s.prm.nextNum) → s.prm.nextNum ≤ 255 →
    let general := s.prm.list.filter fun e => !e.kind.requestBound
    let num := s.prm.nextNum
    let e : PromptEntry := ⟨num, k, k.level, f, s.ctl.second, false, false, none, .none⟩
    let told (l : List PromptEntry) : Station := { s with prm := { s.prm with
      list := l, nextNum := (num + 1) % 256, clears := s.prm.clears.filter fun c => c.num != num } }
    let lit (y : Station) : Station := { y with prm := { y.prm with beacon := y.prm.list.any fun e => e.level == .urgent } }
    let stated (y : Station) : Station := lit (y.post .prompt 63 (.prompt ⟨num, k, k.level, f⟩))
    (s.prm.list = [] → s.raise k f = (stated (told [{ e with shown := true }]), some num)) ∧
    (k.requestBound = true ∨ general.length ≤ 5 →
      (∀ u, s.prm.list.find? (fun e => e.shown) = some u → k.level.rank ≤ u.level.rank →
        s.raise k f = (lit (told (s.prm.list ++ [e])), some num)) ∧
      (∀ front u back, s.prm.list = front ++ u :: back → u.shown = true →
        (∀ v ∈ front ++ back, v.shown = false ∧ v.num ≠ u.num) → u.level.rank < k.level.rank → s.prm.clears.length ≤ 7 →
        let l := front ++ { u with shown := false, heard := false, resend := none, drop := .none } :: back ++ [e]
        let q := Station.post { told l with prm := { (told l).prm with
          clears := (told l).prm.clears ++ [⟨u.num, .preempted, .none⟩] } } .prompt 63 (.clear u.num .preempted)
        s.raise k f = (stated { q with prm := { q.prm with
          list := front ++ { u with shown := false, heard := false, resend := none, drop := .none } :: back ++ [{ e with shown := true }] } },
          some num))) ∧
    (k.requestBound = false → 6 ≤ general.length → (∀ u ∈ general, u.level ≠ .notice) → s.raise k f = (s, none)) ∧
    (∀ v, k.requestBound = false → general.length = 6 → general.find? (fun u => u.level == .notice) = some v →
      let left := s.leavePrompt v.num .withdrawn
      let l := s.prm.list.filter fun u => u.num != v.num
      let chosen (y : Station) : Station := lit (Station.chooseShown { y with prm := { y.prm with
        list := y.prm.list.filter fun u => u.num != v.num } })
      (v.kind = .requestWaiting → s.raise k f = Station.raise { left with req := { left.req with
        table := left.req.table.map fun e => if e.prompt = some v.num then { e with prompt := none } else e } } k f) ∧
      (v.kind = .cleanDue ∨ v.kind = .accountsFull ∨ v.kind = .storeLost → s.raise k f = Station.raise { left with
        acc := left.acc.map fun u => if u.status = .raised v.num then
          (if u.displaced then { u with status := .none, displaced := false } else { u with status := .wanted, displaced := true })
          else u } k f) ∧
      ((∀ u ∈ s.prm.list, u.num = v.num → u = v) →
        (v.shown = false → left = lit { s with prm := { s.prm with list := l } }) ∧
        (v.shown = true → s.prm.clears.length ≤ 7 → left = chosen (Station.post { s with prm := { s.prm with
          clears := s.prm.clears ++ [⟨v.num, .withdrawn, .none⟩] } } .prompt 63 (.clear v.num .withdrawn))))) ∧
    (∀ front u back, s.prm.list = front ++ u :: back → (∀ v ∈ s.prm.list, v.shown = false) → (∀ v ∈ front ++ back, v.num ≠ u.num) →
      (∀ v ∈ front, v.level.rank < u.level.rank) → (∀ v ∈ back, v.level.rank ≤ u.level.rank) →
      s.chooseShown = Station.post { s with prm := { s.prm with
        list := front ++ { u with shown := true, heard := false, resend := none, drop := .none } :: back } } .prompt 63
          (.prompt ⟨u.num, u.kind, u.level, u.fields⟩))

/-- PROMPT and PROMPT_CLEAR in LEARNING or READY (R32, R101, R123, R149, R163, R165, R166). The own echo of a PROMPT marks the SHOWN entry of
its number and level as heard, an URGENT one to be sent again in 20 s; that of a PROMPT-CLEAR ends its record, and a report of its drop marks it. Which of equal records that is, is the model's reading, log 58:
an echo ends the first not yet marked, and a drop marks the one with as many such records after it as like frames are queued after the
dropped one. A peer's REQUEST-WAITING
marks the entry of its tag, its STATION-SILENT the silent peer, its DOOR-OPEN the door record with its number; any other frame of a peer
changes nothing. The own DOOR-OPEN's number is recorded too, against the own address, with the heard mark as it was; the own echo of a
PROMPT-CLEAR that has no such record changes nothing. -/
def Obligations.PromptFramesAreHeard : Prop :=
  (∀ (s : State) (own : Bool) (src dst : Nat) (rest : List RxEntry),
    s.station.ctl.mode = .learning ∨ s.station.ctl.mode = .ready →
    let x := s.station
    (∀ p : PromptMsg, s.station.Hands ⟨own, src, dst⟩ (.prompt p) rest →
      (own = true → p.kind ≠ .doorOpen → exec .prompt s = .next { s with station := (Station.finish { x with prm := { x.prm with
        list := x.prm.list.map fun e => if e.num = p.num ∧ e.shown = true ∧ e.level = p.level then
          { e with heard := true, resend := if p.level = .urgent then some (x.ctl.second + 20) else e.resend } else e } }).dequeue }) ∧
      (own = true → p.kind = .doorOpen → exec .prompt s = .next { s with station := (Station.finish { x with
        prm := { x.prm with list := x.prm.list.map fun e => if e.num = p.num ∧ e.shown = true ∧ e.level = p.level then
          { e with heard := true, resend := if p.level = .urgent then some (x.ctl.second + 20) else e.resend } else e },
        seq := { x.seq with door := { x.seq.door with
          numbers := (x.seq.door.numbers.filter fun d => d.addr != src) ++ [⟨src, p.num⟩] } } }).dequeue }) ∧
      (own = false → ∀ t, p.kind = .requestWaiting → p.fields.tag = some t → exec .prompt s = .next { s with station :=
        (Station.finish { x with req := { x.req with table := x.req.table.map fun e =>
          if e.call.tag = t then { e with noticed := true } else e } }).dequeue }) ∧
      (own = false → ∀ a, p.kind = .stationSilent → p.fields.peer = some a → exec .prompt s = .next { s with station :=
        (Station.finish { x with span := { x.span with
          silent := updateSilent a (fun r => { r with heard := true }) x.span.silent } }).dequeue }) ∧
      (own = false → p.kind = .doorOpen → exec .prompt s = .next { s with station :=
        (Station.finish { x with seq := { x.seq with door := { x.seq.door with
          heard := true, numbers := (x.seq.door.numbers.filter fun d => d.addr != src) ++ [⟨src, p.num⟩] } } }).dequeue }) ∧
      (own = false → p.kind ≠ .requestWaiting → p.kind ≠ .stationSilent → p.kind ≠ .doorOpen →
        exec .prompt s = .next { s with station := x.finish.dequeue })) ∧
    (∀ num reason, s.station.Hands ⟨own, src, dst⟩ (.clear num reason) rest →
      (own = false → exec .promptClear s = .next { s with station := x.finish.dequeue }) ∧
      (own = true → (∀ v ∈ x.prm.clears, v.num ≠ num ∨ v.reason ≠ reason ∨ v.drop ≠ .none) →
        exec .promptClear s = .next { s with station := x.finish.dequeue }) ∧
      (own = true → ∀ front c back, x.prm.clears = front ++ c :: back → c.num = num → c.reason = reason → c.drop = .none →
        (∀ v ∈ front, v.num ≠ num ∨ v.reason ≠ reason ∨ v.drop ≠ .none) →
        exec .promptClear s =
          .next { s with station := (Station.finish { x with prm := { x.prm with clears := front ++ back } }).dequeue }))) ∧
  (∀ (s : Station) (num later : Nat) (reason : ClearReason),
    let awaits (v : ClearRecord) : Bool := decide (v.num = num ∧ v.reason = reason ∧ v.drop = .none)
    ((s.prm.clears.filter awaits).length ≤ later → s.clearDropped num (some reason) later = s) ∧
    (∀ front c back, s.prm.clears = front ++ c :: back → awaits c = true → (back.filter awaits).length = later →
      s.clearDropped num (some reason) later =
        { s with prm := { s.prm with clears := front ++ { c with drop := .dropped } :: back } }))

/-- REPLY in LEARNING or READY (R31, R150, R167 to R169). One that is addressed to the station, names the SHOWN entry and gives an answer its
kind allows has it leave the list and its raising unit told; DOOR-OPEN only with the door closed, and its door released. Any other that
is addressed to the station is counted as a late reply. A CONTINUE of a DOOR-OPEN number in the door record, whichever station it is for,
is a door release, besides what it answers or counts at the station it is for (the Prompt Unit takes it first: the model's choice,
log 21). A door release clears the latch with the door closed, the
own DOOR-OPEN prompt withdrawn, the door record emptied, and a REPORT owed unless a fault is open; it changes nothing with the door open,
and empties the door record where the latch is clear. Any other REPLY changes nothing. -/
def Obligations.ReplyIsTaken : Prop :=
  (∀ (s : State) (own : Bool) (src dst st num : Nat) (a : Answer) (rest : List RxEntry),
    s.station.Hands ⟨own, src, dst⟩ (.reply st num a) rest → s.station.ctl.mode = .learning ∨ s.station.ctl.mode = .ready →
    let x := s.station
    let mine := dst = x.cv.address ∧ st = x.cv.address
    let release := a = .cont ∧ dst = st ∧ ∃ d ∈ x.seq.door.numbers, d.addr = st ∧ d.num = num
    let taken (e : PromptEntry) := x.prm.list.find? (fun e => e.shown) = some e ∧ e.num = num ∧ e.kind.allows a = true
    let late := ∀ e, taken e → e.kind = .doorOpen ∧ x.pins.door = true
    let counted : Station := { x with liu := { x.liu with counters := { x.liu.counters with
      lateReplies := min (x.liu.counters.lateReplies + 1) 65535 } } }
    (¬ mine → ¬ release → exec .reply s = .next { s with station := x.finish.dequeue }) ∧
    (¬ mine → release → exec .reply s = .next { s with station := x.doorRelease.finish.dequeue }) ∧
    (mine → late → ¬ release → exec .reply s = .next { s with station := counted.finish.dequeue }) ∧
    (mine → late → release → exec .reply s = .next { s with station := counted.doorRelease.finish.dequeue }) ∧
    (∀ e, mine → taken e → e.kind ≠ .doorOpen →
      (¬ release → exec .reply s =
        .next { s with station := ((x.leavePrompt num .answered).toldAnswer e a).finish.dequeue }) ∧
      (release → exec .reply s =
        .next { s with station := ((x.leavePrompt num .answered).toldAnswer e a).doorRelease.finish.dequeue })) ∧
    (∀ e, mine → taken e → e.kind = .doorOpen → x.pins.door = false →
      exec .reply s = .next { s with station := (x.leavePrompt num .answered).doorRelease.finish.dequeue })) ∧
  (∀ s : Station,
    let clear (y : Station) : Station := Station.conditionCleared { y with seq := { y.seq with
      doorLatch := false, door := ⟨[], false, false, none, false, none⟩,
      doorReportOwed := y.seq.doorReportOwed || y.seq.fault.isNone } }
    (s.seq.doorLatch = true → s.pins.door = true → s.doorRelease = s) ∧
    (s.seq.doorLatch = true → s.pins.door = false →
      (s.seq.door.raised = false ∨ s.seq.door.prompt = none → s.doorRelease = clear s) ∧
      (∀ num, s.seq.door.raised = true → s.seq.door.prompt = some num →
        s.doorRelease = clear (s.withdrawPrompt .sequencer num))) ∧
    (s.seq.doorLatch = false →
      s.doorRelease = { s with seq := { s.seq with door := ⟨[], false, false, none, false, none⟩ } }))

/-- The answers (R118, R124, R140, R145, R151, R171, R189). To a request-bound prompt: the assisted flag is set, the wait ends, and the table
of R140 gives the stage, or the destination and outcome of the carrying stage, or the outcome with which the request completes; RETRY of
SLOT-OCCUPIED goes back to the stage that placed (for step 2 of a detour the model's choice, log 52).
CARRIAGE-FAULT's is kept in the fault record; HAND-LOADED's has a REPORT owed; RAIL-BLOCKED's clears the latch and the retries
and starts the 5 s timer of a waiting move again, in the wait of R111 too (the model's choice, log 51);
STATION-SILENT's RELEASE returns the peer's calls, a rescan point whether one returned or not (R98; the model's reading of R94, log 69); those of the NOTICE kinds end the records. -/
def Obligations.AnswersTakeEffect : Prop :=
  (∀ (s : Station) (e : PromptEntry) (r : ReqRecord) (c : Call), s.seq.record = some r → s.callOf r.tag = some c →
    r.waiting = some e.kind → r.prompt = some e.num →
    let freed : ReqRecord := { r with assisted := true, waiting := none, prompt := none }
    let put (u : ReqRecord) : Station := { s with seq := { s.seq with record := some u } }
    let go (stage : Stage) : Station := put { freed with stage := stage }
    let ends (o : Result) : Station := (put { freed with outcome := o }).complete
    let carry (d : Dest) (o : Result) : Station := put { freed with
      dest := d, outcome := o, stage := if c.kind = .demount then .toCell else .toDrive }
    (e.kind = .loadWindow → s.toldAnswer e .cont = go .toSource ∧ s.toldAnswer e .skip = ends .declined) ∧
    (e.kind = .cellEmpty → s.toldAnswer e .retry = go r.stage ∧ s.toldAnswer e .skip = ends .notFound) ∧
    (e.kind = .serialMismatch → s.toldAnswer e .accept = go (if c.ring then .ring else .toDrive) ∧
      s.toldAnswer e .returnReel = carry .source .declined ∧ s.toldAnswer e .skip = carry .window .declined) ∧
    (e.kind = .ringNeeded → s.toldAnswer e .cont = go .detourPick ∧ s.toldAnswer e .skip = ends .declined) ∧
    (e.kind = .slotOccupied → s.toldAnswer e .retry = go r.stage ∧
      s.toldAnswer e .window = carry .window (if c.kind = .demount then .returned else .declined))) ∧
  (∀ (s : Station) (e : PromptEntry) (a : Answer),
    (∀ g, e.kind = .carriageFault → s.seq.fault = some g → g.prompt = some e.num → s.toldAnswer e a = { s with seq := { s.seq with
      fault := some { g with prompt := none, answer := some (if a = .retry then .retry else .release) } } }) ∧
    (e.kind = .handLoaded → s.seq.handPrompt = some e.num →
      s.toldAnswer e a = { s with seq := { s.seq with handPrompt := none, handReportOwed := true } }) ∧
    (e.kind = .railBlocked →
      (s.span.reservation ≠ .waiting →
        s.toldAnswer e a = { s with span := { s.span with railLatch := false, railPrompt := none, retries := 0 } }) ∧
      (s.span.reservation = .waiting → s.toldAnswer e a = Station.evaluate { s with span := { s.span with
        railLatch := false, railPrompt := none, retries := 0, waitTimer := some 500, firstFree := false } })) ∧
    (∀ r, e.kind = .stationSilent → s.span.silent.find? (fun r => r.prompt == some e.num) = some r →
      let y := { s with span := { s.span with silent := updateSilent r.addr (fun r => { r with prompt := none }) s.span.silent } }
      let z := y.reopen r.addr
      s.toldAnswer e a = if a = .release then { z with req := { z.req with rescan := true } } else y) ∧
    (e.kind = .requestWaiting → s.toldAnswer e a = { s with req := { s.req with
      table := s.req.table.map fun u => if u.prompt = some e.num then { u with prompt := none } else u } }) ∧
    (e.kind = .cleanDue ∨ e.kind = .accountsFull ∨ e.kind = .storeLost → s.toldAnswer e a = { s with
      acc := s.acc.map fun u => if u.status = .raised e.num then { u with status := .none, displaced := false } else u }))

/-- PROMPT_EXPIRY, PROMPT_ESCALATION and PROMPT_RESEND (R160 to R163, R165, R171, R172), each for the one entry that is due. A NOTICE 30 s
old leaves the list, where it was QUEUED without a frame, and its raising unit is told. An ACTION 60 s old becomes URGENT and BEACON is
driven; SHOWN it is stated again, QUEUED behind an URGENT one it stays so, and QUEUED behind one of a lower level it preempts that one,
which returns to QUEUED with a PROMPT-CLEAR. A NOTICE that expires SHOWN has its PROMPT-CLEAR posted, the oldest entry of the highest level
left is SHOWN and stated, and its raising unit is told last. A SHOWN URGENT entry whose re-send second has come is stated
again. The postings after drops (R161, R164, R165) come last at an advance: not while an expiry, an escalation or a re-send is due (the
model's choice, log 10). A SHOWN entry whose PROMPT's drop fell due is stated again at its level now (its marks cleared: the model's
choice, log 54); then (the model's choice, log 68) a PROMPT-CLEAR whose drop fell due is posted again where it is still true, taking its
place in the clear list anew (log 58), and its record goes otherwise. -/
def Obligations.PromptTimersExpire : Prop :=
  (∀ (s : State) (e : PromptEntry),
    let x := s.station
    let old (u : PromptEntry) : Bool := (u.level = .notice) && decide (u.raised + 30 ≤ x.ctl.second)
    let slow (u : PromptEntry) : Bool := (u.level = .action) && decide (u.raised + 60 ≤ x.ctl.second)
    let again (u : PromptEntry) : Bool := u.shown && (u.level = .urgent) && u.resend.any fun r => decide (r ≤ x.ctl.second)
    let list (f : PromptEntry → PromptEntry) : List PromptEntry := x.prm.list.map fun u => if u.num = e.num then f u else u
    let pushed (c : ClearRecord) : List ClearRecord := (if x.prm.clears.length ≤ 7 then x.prm.clears else x.prm.clears.drop 1) ++ [c]
    (∀ u ∈ x.prm.list, u.num = e.num → u = e) →
    (x.prm.list.filter old = [e] → e.shown = false →
      let l : List PromptEntry := x.prm.list.filter fun u => u.num != e.num
      let y : Station := { x with prm := { x.prm with list := l, beacon := l.any fun u => u.level == .urgent } }
      (e.kind = .requestWaiting → exec .promptExpiry s = .next { s with station := Station.finish { y with req := { y.req with
        table := y.req.table.map fun u => if u.prompt = some e.num then { u with prompt := none } else u } } }) ∧
      (e.kind = .cleanDue ∨ e.kind = .accountsFull ∨ e.kind = .storeLost →
        exec .promptExpiry s = .next { s with station := Station.finish { y with
          acc := y.acc.map fun u => if u.status = .raised e.num then { u with status := .none, displaced := false } else u } })) ∧
    (x.prm.list.filter old = [e] → x.prm.list = [e] → e.shown = true → e.kind = .requestWaiting → x.prm.clears.length ≤ 7 →
      let q := Station.post { x with prm := { x.prm with clears := x.prm.clears ++ [⟨e.num, .expired, .none⟩] } } .prompt 63
        (.clear e.num .expired)
      exec .promptExpiry s = .next { s with station := Station.finish { q with
        prm := { q.prm with list := [], beacon := false },
        req := { q.req with table := q.req.table.map fun u => if u.prompt = some e.num then { u with prompt := none } else u } } }) ∧
    (∀ front v back, x.prm.list.filter old = [e] → e.shown = true → (∀ u ∈ x.prm.list, u.shown = true → u = e) →
      (x.prm.list.filter fun u => u.num != e.num) = front ++ v :: back → (∀ u ∈ front, u.level.rank < v.level.rank) →
      (∀ u ∈ back, u.level.rank ≤ v.level.rank) → (∀ u ∈ front ++ back, u.num ≠ v.num) →
      let q := Station.post { x with prm := { x.prm with clears := pushed ⟨e.num, .expired, .none⟩ } } .prompt 63 (.clear e.num .expired)
      let z := Station.post { q with prm := { q.prm with list := (q.prm.list.filter fun u => u.num != e.num).map fun u =>
        if u.num = v.num then { u with shown := true, heard := false, resend := none, drop := .none } else u } } .prompt 63
          (.prompt ⟨v.num, v.kind, v.level, v.fields⟩)
      let y : Station := { z with prm := { z.prm with beacon := (front ++ v :: back).any fun u => u.level == .urgent } }
      (e.kind = .requestWaiting → exec .promptExpiry s = .next { s with station := Station.finish { y with req := { y.req with
        table := y.req.table.map fun u => if u.prompt = some e.num then { u with prompt := none } else u } } }) ∧
      (e.kind = .cleanDue ∨ e.kind = .accountsFull ∨ e.kind = .storeLost →
        exec .promptExpiry s = .next { s with station := Station.finish { y with
          acc := y.acc.map fun u => if u.status = .raised e.num then { u with status := .none, displaced := false } else u } })) ∧
    (x.prm.list.filter old = [] → x.prm.list.filter slow = [e] →
      (∀ v, e.shown = false → x.prm.list.find? (fun u => u.shown) = some v → v.level ≠ .urgent →
        let q := Station.post { x with prm := { x.prm with
          list := (list fun u => { u with level := .urgent }).map fun u => if u.num = v.num then
            { u with shown := false, heard := false, resend := none, drop := .none } else u,
          clears := pushed ⟨v.num, .preempted, .none⟩ } } .prompt 63 (.clear v.num .preempted)
        let z := Station.post { q with prm := { q.prm with list := q.prm.list.map fun u => if u.num = e.num then
          { u with shown := true, heard := false, resend := none, drop := .none } else u } } .prompt 63
            (.prompt ⟨e.num, e.kind, .urgent, e.fields⟩)
        exec .promptEscalation s = .next { s with station := Station.finish { z with prm := { z.prm with beacon := true } } }) ∧
      (e.shown = true →
        let q := Station.post { x with prm := { x.prm with list := list fun u =>
          { u with level := .urgent, heard := false, resend := none, drop := .none } } } .prompt 63 (.prompt ⟨e.num, e.kind, .urgent, e.fields⟩)
        exec .promptEscalation s = .next { s with station := Station.finish { q with prm := { q.prm with beacon := true } } }) ∧
      (∀ u, e.shown = false → x.prm.list.find? (fun u => u.shown) = some u → u.level = .urgent →
        exec .promptEscalation s = .next { s with station := Station.finish { x with prm := { x.prm with
          list := list fun u => { u with level := .urgent }, beacon := true } } })) ∧
    (x.prm.list.filter old = [] → x.prm.list.filter slow = [] → x.prm.list.filter again = [e] →
      exec .promptResend s = .next { s with station := (Station.post { x with prm := { x.prm with list := list fun u =>
        { u with heard := false, resend := none, drop := .none } } } .prompt 63 (.prompt ⟨e.num, e.kind, .urgent, e.fields⟩)).finish })) ∧
  (∀ s : Station,
    let busy (u : PromptEntry) : Prop := (u.level = .notice ∧ u.raised + 30 ≤ s.ctl.second) ∨
      (u.level = .action ∧ u.raised + 60 ≤ s.ctl.second) ∨
      (u.shown = true ∧ u.level = .urgent ∧ ∃ r, u.resend = some r ∧ r ≤ s.ctl.second)
    ((∃ u ∈ s.prm.list, busy u) → s.repostDropped = s) ∧
    ∀ q : Station, (∀ u ∈ s.prm.list, ¬ busy u) →
      ((∀ u ∈ s.prm.list, u.shown = false ∨ u.drop ≠ .due) ∧ q = s) ∨
        (∃ e, s.prm.list.filter (fun u => u.shown && u.drop == .due) = [e] ∧ (∀ u ∈ s.prm.list, u.num = e.num → u = e) ∧
          q = Station.post { s with prm := { s.prm with list := s.prm.list.map fun u => if u.num = e.num then
            { u with heard := false, resend := none, drop := .none } else u } } .prompt 63 (.prompt ⟨e.num, e.kind, e.level, e.fields⟩)) →
      ((∀ c ∈ s.prm.clears, c.drop ≠ .due) → s.repostDropped = q) ∧
      (∀ front c back, s.prm.clears = front ++ c :: back → c.drop = .due → (∀ v ∈ front ++ back, v.drop ≠ .due) →
        let still := if c.reason = .preempted then ∃ u, s.prm.list.find? (fun u => u.num == c.num) = some u ∧ u.shown = false
          else ∀ u ∈ s.prm.list, u.num ≠ c.num
        (still → s.repostDropped = Station.post { q with prm := { q.prm with
          clears := front ++ back ++ [{ c with drop := .none }] } } .prompt 63 (.clear c.num c.reason)) ∧
        (¬ still → s.repostDropped = { q with prm := { q.prm with clears := front ++ back } })))

/-- Every step keeps BEACON driven exactly while the list holds an entry of level URGENT (R152, R172). -/
def Obligations.EveryStepKeepsBeacon : Prop :=
  ∀ s t : State, s.station.prm.Ok → step s = .next t → t.station.prm.Ok

/-! ## 09_usage_accounting_and_the_retained_store.md -/

/-- An increment's place in the live account table (R176, R177): the slot that holds its account; else the lowest empty slot, which takes the
account; else the overflow slot, and an account other than 4095 there calls for ACCOUNTS-FULL. The counts saturate. A DONE taken by the
Accounting Unit in READY (R177 to R182, R185). MOUNTED: the drive's record counts it, a CLEAN ends since-clean; an open occupancy entry
of the drive is closed, counted as estimated; the station's own is charged as a mount, opens an entry and, where it brings since-clean to
the threshold, calls for CLEAN-DUE. DEMOUNT RETURNED closes the entry. Increments go to the live table, or to the pending list during a
close, where a ninth is lost and counted. The first that the overflow slot takes for an account other than 4095 in a period sets the
accounts-full mark, which has ACCOUNTS-FULL called for (R176, R189). Any other DONE changes nothing. -/
def Obligations.DoneIsAccounted : Prop :=
  ((∀ (x : Slot) (a : Nat) (ring assisted : Bool), x.mounts ≤ 65535 → x.ring ≤ 65535 → x.assisted ≤ 65535 →
       x.add (.mount a ring assisted) = { x with mounts := min (x.mounts + 1) 65535, ring := min (x.ring + ring.toNat) 65535,
                                                 assisted := min (x.assisted + assisted.toNat) 65535 }) ∧
     (∀ (x : Slot) (a sec : Nat), x.add (.occupancy a sec) = { x with seconds := min (x.seconds + sec) 16777215 }) ∧
     ∀ (t : AccountTable) (i : Increment),
       (∀ front x back, t.slots = front ++ x :: back → x.account = some i.account → (∀ u ∈ front, u.account ≠ some i.account) →
         t.charge i = ({ t with slots := front ++ x.add i :: back }, false)) ∧
       (∀ front x back, t.slots = front ++ x :: back → (∀ u ∈ t.slots, u.account ≠ some i.account) → x.account = none →
         (∀ u ∈ front, u.account ≠ none) →
         t.charge i = ({ t with slots := front ++ Slot.add { x with account := some i.account } i :: back }, false)) ∧
       ((∀ u ∈ t.slots, u.account ≠ none ∧ u.account ≠ some i.account) →
         t.charge i = ({ t with overflow := t.overflow.add i }, decide (i.account ≠ 4095)))) ∧
  (∀ (s : Station) (own : Bool) (d : Done), d.driveNo < s.store.drives.length →
       let st := s.store
       let t := (s.accountDone own d).store
       let open_ := st.occupancy.find? fun o => o.drive == d.driveNo
       let closed := st.occupancy.filter fun o => o.drive != d.driveNo
       let ends : List Increment := open_.toList.map fun o => .occupancy o.account (s.ctl.second - o.opened)
       let made (incs : List Increment) : Prop :=
         (st.closeBusy = false → t.table = incs.foldl (fun a i => (a.charge i).1) st.table ∧ t.pendingIncs = st.pendingIncs) ∧
         (st.closeBusy = true → st.pendingIncs.length + incs.length ≤ 8 →
           t.table = st.table ∧ t.pendingIncs = st.pendingIncs ++ incs ∧ t.losses = st.losses) ∧
         (st.closeBusy = true → st.pendingIncs.length ≤ 8 →
           let room := 8 - st.pendingIncs.length
           t.table = st.table ∧ t.pendingIncs = st.pendingIncs ++ incs.take room ∧
             (st.losses ≤ 65535 → t.losses = min (st.losses + (incs.length - room)) 65535))
       (d.result = .mounted →
         t.drives = st.drives.modify d.driveNo (fun r => ⟨min (r.mounts + 1) 65535, if d.kind = .clean then 0 else min (r.sinceClean + 1) 65535⟩) ∧
         t.occupancy = closed ++ (if own then [⟨d.driveNo, d.account, s.ctl.second⟩] else []) ∧
         t.occEstimated = (if open_.isSome then min (st.occEstimated + 1) 65535 else st.occEstimated) ∧
         made (ends ++ if own then [.mount d.account d.ring d.assisted] else []) ∧
         (own = true → d.kind = .mount → s.cv.clean ≠ 0 → (∃ r ∈ s.acc, r.subject = .cleanDue d.driveNo) →
           (∃ r, st.drives[d.driveNo]? = some r ∧ min (r.sinceClean + 1) 65535 = s.cv.clean) →
           (s.accountDone own d).accStatus (.cleanDue d.driveNo) ≠ .none)) ∧
       (d.kind = .demount → d.result = .returned →
         t.drives = st.drives ∧ t.occupancy = closed ∧ t.occEstimated = st.occEstimated ∧ made ends) ∧
       (d.result ≠ .mounted → d.kind ≠ .demount ∨ d.result ≠ .returned → s.accountDone own d = s)) ∧
  (∀ (s : Station) (i : Increment),
       let t := s.store.table.charge i
       let charged : Station := { s with store := { s.store with table := t.1 } }
       let marked : Station := { charged with store := { charged.store with accountsFull := true } }
       let q := marked.raise .accountsFull ⟨none, none, none, none, none⟩
       (t.2 = false ∨ s.store.accountsFull = true → s.chargeLive i = charged) ∧
       (t.2 = true → s.store.accountsFull = false →
         (s.accStatus .accountsFull ≠ .none → s.chargeLive i = marked) ∧
         (s.accStatus .accountsFull = .none → s.chargeLive i = { q.1 with acc := q.1.acc.map fun u => if u.subject = .accountsFull then
           { u with status := match q.2 with | some num => .raised num | none => .wanted } else u }))) ∧
  (∀ (s : Station) (own : Bool) (d : Done), s.store.closeBusy = false →
       (∀ o, d.kind = .demount → d.result = .returned → s.store.occupancy.find? (fun u => u.drive == d.driveNo) = some o →
         let y := s.chargeLive (.occupancy o.account (s.ctl.second - o.opened))
         s.accountDone own d = { y with store := { y.store with occupancy := y.store.occupancy.filter fun u => u.drive != d.driveNo } }) ∧
       (own = true → d.kind = .mount → d.result = .mounted → s.cv.clean = 0 →
         s.store.occupancy.find? (fun u => u.drive == d.driveNo) = none →
         let y := Station.chargeLive { s with store := { s.store with drives := s.store.drives.modify d.driveNo fun r =>
           ⟨min (r.mounts + 1) 65535, min (r.sinceClean + 1) 65535⟩ } } (.mount d.account d.ring d.assisted)
         s.accountDone own d = { y with store := { y.store with occupancy := y.store.occupancy ++ [⟨d.driveNo, d.account, s.ctl.second⟩] } }))

/-- TALLY_ASK, PERIOD_CLOSE and TALLY_TAKEN addressed to a station in READY (R183, R187, R188). An ask is answered with the records held, or
refused during a close and where no snapshot is held; a PERIOD-CLOSE begins a close, or is refused during one and while a snapshot is
held; a TALLY-TAKEN of the held snapshot's period releases it, and any other is ignored. In LEARNING, or addressed to another, each
changes nothing. (That a released snapshot has period 0 and check word 0 is the model's choice, log 55.) -/
def Obligations.CollectorIsAnswered : Prop :=
  ∀ (s : State) (own : Bool) (src dst : Nat) (rest : List RxEntry),
    let x := s.station
    let st := x.store
    let tally (y : Station) (w : Which) (status : TallyStatus) (period first : Nat) (r : List Byte) : State :=
      { s with station := (y.post .accounting 61 (.tally ⟨period, w, status,
        ⟨y.store.storeLost, y.store.snapInvalid, y.store.snapHeld, y.store.closeBusy⟩, first, r⟩)).finish.dequeue }
    let closedPeriod := if st.snapHeld then st.snapshot.period else if st.closeBusy then st.closing.period else 0
    let live := st.table.slots ++ [st.table.overflow]
    let takes := x.ctl.mode = .ready ∧ dst = x.cv.address
    let passed (i : Instr) : Prop := ¬ takes → x.ctl.mode = .learning ∨ x.ctl.mode = .ready →
      exec i s = .next { s with station := x.finish.dequeue }
    (∀ w first count, x.Hands ⟨own, src, dst⟩ (.tallyAsk w first count) rest →
      passed .tallyAsk ∧
      (takes → st.closeBusy = true → exec .tallyAsk s =
        .next (tally x w .refused (if w = .closed then closedPeriod else st.period) first [])) ∧
      (takes → st.closeBusy = false → w = .live → exec .tallyAsk s =
        .next (tally x w .ok st.period first (((live.drop first).take count).flatMap Slot.bytes))) ∧
      (takes → st.closeBusy = false → w = .closed → st.snapHeld = true → exec .tallyAsk s =
        .next (tally x w .ok st.snapshot.period first (((st.snapshot.records.drop first).take count).flatMap Slot.bytes))) ∧
      (takes → st.closeBusy = false → w = .closed → st.snapHeld = false → exec .tallyAsk s = .next (tally x w .refused 0 first [])) ∧
      (takes → st.closeBusy = false → w = .drives → exec .tallyAsk s =
        .next (tally x w .ok st.period first (((st.drives.zipIdx.drop first).take count).flatMap fun p =>
          [byteOf p.2, byteOf (p.1.mounts / 256), byteOf p.1.mounts, byteOf (p.1.sinceClean / 256), byteOf p.1.sinceClean])))) ∧
    (∀ p, x.Hands ⟨own, src, dst⟩ (.periodClose p) rest →
      passed .periodClose ∧
      (takes → st.closeBusy = true ∨ st.snapHeld = true → exec .periodClose s = .next (tally x .closed .refused closedPeriod 0 [])) ∧
      (takes → st.closeBusy = false → st.snapHeld = false → exec .periodClose s = .next { s with station :=
        (Station.finish { x with store := { st with closeBusy := true, closing := ⟨p, 0, 0xFFFF#16, false⟩ } }).dequeue })) ∧
    (∀ p, x.Hands ⟨own, src, dst⟩ (.tallyTaken p) rest →
      passed .tallyTaken ∧
      (takes → st.snapHeld = true → st.snapshot.period = p → exec .tallyTaken s =
        .next (tally { x with store := { st with snapshot := ⟨[], 0, 0⟩, snapHeld := false, snapInvalid := false } } .closed .ok p 0 [])) ∧
      (takes → st.snapHeld = false ∨ st.snapshot.period ≠ p → exec .tallyTaken s = .next { s with station := x.finish.dequeue }))

/-- A close (R184, R186). Each of its first 63 tick events copies the next slot into the snapshot and folds its 11 bytes into the check
register. The 64th makes the completion due and copies nothing: CLOSE_COMPLETE, a row of its own, is the completion (the model's choice,
log 11). At it slot 63 is copied, the snapshot is held with its check word and period, the live table is cleared and the pending increments are charged to it in
order, store-lost is cleared, and TALLY CLOSED is posted; drives, occupancy and the counts stay. -/
def Obligations.CloseCopiesAndCompletes : Prop :=
  (∀ (st : RetainedStore) (x : Slot), st.closeBusy = true → st.closing.next < 63 → st.table.slots[st.closing.next]? = some x →
    st.tickClose = { st with
      snapshot := { st.snapshot with records := st.snapshot.records.take st.closing.next ++ [x] },
      closing := { st.closing with next := st.closing.next + 1, check := crcFrom st.closing.check x.bytes } } ∧ x.bytes.length = 11) ∧
  (∀ st : RetainedStore, st.closeBusy = true → 63 ≤ st.closing.next →
    st.tickClose = { st with closing := { st.closing with lastDue := true } }) ∧
  (∀ st : RetainedStore, st.closeBusy = false → st.tickClose = st) ∧
  (∀ s : State, s.station.store.closeBusy = false ∨ s.station.store.closing.lastDue = false ∨ s.station.ctl.mode ≠ .ready →
    exec .closeComplete s = .next s) ∧
  ∀ s : State, s.station.ctl.mode = .ready → s.station.store.closeBusy = true → s.station.store.closing.lastDue = true → s.station.store.closing.next = 63 →
    s.station.store.table.slots.length = 63 →
    let st := s.station.store
    let p := st.closing.period
    ∃ y : Station, exec .closeComplete s = .next { s with station :=
        (y.post .accounting 61 (.tally ⟨p, .closed, .closed, ⟨false, st.snapInvalid, true, false⟩, 0, []⟩)).finish } ∧
      y.store.snapshot = ⟨st.snapshot.records.take 63 ++ [st.table.overflow], p, crcFrom st.closing.check st.table.overflow.bytes⟩ ∧
      y.store.snapHeld = true ∧ y.store.snapInvalid = st.snapInvalid ∧ y.store.closeBusy = false ∧ y.store.storeLost = false ∧
      y.store.period = p ∧ y.store.pendingIncs = [] ∧
      y.store.table = st.pendingIncs.foldl (fun t i => (t.charge i).1) ⟨List.replicate 63 ⟨none, 0, 0, 0, 0⟩, ⟨some 4095, 0, 0, 0, 0⟩⟩ ∧
      y.store.drives = st.drives ∧ y.store.occupancy = st.occupancy ∧ y.store.occLost = st.occLost ∧
      y.store.occEstimated = st.occEstimated ∧ y.store.losses = st.losses ∧ y.ctl = s.station.ctl ∧ y.seq = s.station.seq

/-- Every step keeps the retained store good: while its latch says so, 63 slots and the overflow slot of account 4095, ring and assisted
mounts no greater than mounts in every slot, live or in the snapshot, counts within their widths, 8 pending increments or fewer, 32 drive
records (R173, R176, R179, R185, R190). -/
def Obligations.EveryStepKeepsTheStore : Prop :=
  ∀ s t : State, s.station.store.Ok → step s = .next t → t.station.store.Ok

/-- The state right after reset meets the invariants: LIU, request table, travel under its grant, BEACON, retained store (R25, R77, R129,
R152, R174). -/
def Obligations.ResetMeetsTheInvariants : Prop :=
  let s := State.reset.station
  s.liu.Ok ∧ s.req.Ok ∧ s.TravelOk ∧ s.prm.Ok ∧ s.store.Ok ∧ State.reset.pending = []
end

