-- ==== Sys2Proof/Laws/Line.lean ====
section
/-! SUPPORT. What the Line Interface Unit's shared operations do and leave alone: the receiving side, the capacities, the
backoff register. -/

namespace Sys2Proof.Machine

/-! ## The receiving side -/

/-- Two LIUs agree in everything but the transmit side: running, divisor, the line, the receiver and the receive queue. -/
def Liu.SameRx (a b : Liu) : Prop :=
  b.running = a.running ∧ b.divisor = a.divisor ∧ b.lineBusy = a.lineBusy ∧ b.receiver = a.receiver ∧ b.rxq = a.rxq

theorem Liu.SameRx.refl (l : Liu) : l.SameRx l := ⟨rfl, rfl, rfl, rfl, rfl⟩

theorem Liu.SameRx.trans {a b c : Liu} (h : a.SameRx b) (k : b.SameRx c) : a.SameRx c :=
  ⟨k.1.trans h.1, k.2.1.trans h.2.1, k.2.2.1.trans h.2.2.1, k.2.2.2.1.trans h.2.2.2.1, k.2.2.2.2.trans h.2.2.2.2⟩

theorem Liu.tryDraw_sameRx (l : Liu) : l.SameRx l.tryDraw := by
  unfold Liu.tryDraw
  split
  · exact .refl l
  · split <;> exact ⟨rfl, rfl, rfl, rfl, rfl⟩

theorem Liu.headChanged_sameRx (l : Liu) : l.SameRx l.headChanged := by
  unfold Liu.headChanged
  split
  · split
    · exact ⟨rfl, rfl, rfl, rfl, rfl⟩
    · exact Liu.SameRx.trans ⟨rfl, rfl, rfl, rfl, rfl⟩ (Liu.tryDraw_sameRx _)
  · split <;> exact ⟨rfl, rfl, rfl, rfl, rfl⟩
  · exact .refl l

theorem Liu.join_sameRx (l : Liu) (e : TxEntry) : l.SameRx (l.join e) := by
  have base (q : List TxEntry) : l.SameRx { l with txq := q } := ⟨rfl, rfl, rfl, rfl, rfl⟩
  unfold Liu.join
  dsimp only
  split
  · exact Liu.SameRx.trans ⟨rfl, rfl, rfl, rfl, rfl⟩ (Liu.tryDraw_sameRx _)
  · split
    · exact base _
    · exact (base _).trans (Liu.headChanged_sameRx _)
  · exact base _

/-- Posting touches the transmit side alone (R14). -/
theorem Liu.post_sameRx (l : Liu) (e : TxEntry) : l.SameRx (l.post e).1 := by
  unfold Liu.post
  split
  · exact Liu.join_sameRx l e
  · split
    · split
      · exact Liu.SameRx.trans ⟨rfl, rfl, rfl, rfl, rfl⟩ (Liu.join_sameRx _ e)
      · exact ⟨rfl, rfl, rfl, rfl, rfl⟩
    · exact ⟨rfl, rfl, rfl, rfl, rfl⟩

theorem Liu.postSpan_sameRx (l : Liu) (f : Frame) : l.SameRx (l.postSpan f).1 := by
  have base (q : List TxEntry) : l.SameRx { l with txq := q } := ⟨rfl, rfl, rfl, rfl, rfl⟩
  unfold Liu.postSpan
  split
  · exact ⟨rfl, rfl, rfl, rfl, rfl⟩
  · split
    · dsimp only
      split
      · exact (base _).trans (Liu.headChanged_sameRx _)
      · exact base _
    · exact Liu.post_sameRx l _

theorem Liu.withdrawSpan_sameRx (l : Liu) : l.SameRx l.withdrawSpan.1 := by
  have base (q : List TxEntry) : l.SameRx { l with heldSpan := none, txq := q } := ⟨rfl, rfl, rfl, rfl, rfl⟩
  unfold Liu.withdrawSpan
  split
  · exact ⟨rfl, rfl, rfl, rfl, rfl⟩
  · dsimp only
    split
    · exact (base _).trans (Liu.headChanged_sameRx _)
    · exact base _

/-- The wait that is drawn when a place falls free leaves the receiving side alone (R11, R18). -/
theorem Liu.dequeue_rx (l : Liu) :
    l.dequeue.running = l.running ∧ l.dequeue.divisor = l.divisor ∧ l.dequeue.lineBusy = l.lineBusy ∧
      l.dequeue.receiver = l.receiver ∧ l.dequeue.rxq = l.rxq.tail :=
  Liu.tryDraw_sameRx { l with rxq := l.rxq.tail }

/-! ## The wait drawn (R18, R19, R22) -/

@[simp] theorem Liu.tryDraw_txq (l : Liu) : l.tryDraw.txq = l.txq := by
  unfold Liu.tryDraw; split
  · rfl
  · split <;> rfl

@[simp] theorem Liu.tryDraw_counters (l : Liu) : l.tryDraw.counters = l.counters := by
  unfold Liu.tryDraw; split
  · rfl
  · split <;> rfl

@[simp] theorem Liu.tryDraw_heldSpan (l : Liu) : l.tryDraw.heldSpan = l.heldSpan := by
  unfold Liu.tryDraw; split
  · rfl
  · split <;> rfl

@[simp] theorem Liu.headChanged_txq (l : Liu) : l.headChanged.txq = l.txq := by
  unfold Liu.headChanged; split
  · split <;> simp
  · split <;> rfl
  · rfl

/-- A draw is made only in GAP-WAIT; in every other access nothing changes (R18). -/
theorem Liu.tryDraw_of_ne (l : Liu) (h : l.access ≠ .gapWait) : l.tryDraw = l := by
  unfold Liu.tryDraw; split
  · rfl
  · simp [h]

/-- Outside GAP-WAIT the head frame leaves the receive queue and nothing else changes (R11). -/
theorem Liu.dequeue_of_ne (l : Liu) (h : l.access ≠ .gapWait) : l.dequeue = { l with rxq := l.rxq.tail } :=
  Liu.tryDraw_of_ne _ h

@[simp] theorem Liu.dequeue_txq (l : Liu) : l.dequeue.txq = l.txq := by simp [Liu.dequeue]
@[simp] theorem Liu.dequeue_counters (l : Liu) : l.dequeue.counters = l.counters := by simp [Liu.dequeue]
@[simp] theorem Liu.dequeue_heldSpan (l : Liu) : l.dequeue.heldSpan = l.heldSpan := by simp [Liu.dequeue]

/-! ## Characters received (R5 to R8, R17) -/

/-- Two LIUs agree in the transmit side's frames: the queue, the held place, the generator; the access is the same, or a wait was discarded
for GAP-WAIT; the receive queue keeps its capacity. -/
def Liu.SameTx (a b : Liu) : Prop :=
  b.running = a.running ∧ b.divisor = a.divisor ∧ b.txq = a.txq ∧ b.heldSpan = a.heldSpan ∧ b.backoff = a.backoff ∧
    (b.access = a.access ∨ ((∃ n, a.access = .slotWait n) ∧ b.access = .gapWait)) ∧ (a.rxq.length ≤ 4 → b.rxq.length ≤ 4)

theorem Liu.SameTx.refl (l : Liu) : l.SameTx l := ⟨rfl, rfl, rfl, rfl, rfl, .inl rfl, id⟩

theorem Liu.SameTx.trans {a b c : Liu} (h : a.SameTx b) (k : b.SameTx c) : a.SameTx c := by
  obtain ⟨h1, h2, h3, h4, h5, h6, h7⟩ := h
  obtain ⟨k1, k2, k3, k4, k5, k6, k7⟩ := k
  refine ⟨k1.trans h1, k2.trans h2, k3.trans h3, k4.trans h4, k5.trans h5, ?_, k7 ∘ h7⟩
  rcases k6 with k | ⟨⟨n, hn⟩, k⟩ <;> rcases h6 with h | ⟨⟨m, hm⟩, h⟩
  · exact .inl (k.trans h)
  · exact .inr ⟨⟨m, hm⟩, k.trans h⟩
  · exact .inr ⟨⟨n, h ▸ hn⟩, k⟩
  · exact .inr ⟨⟨m, hm⟩, k⟩

theorem Liu.sampleSpace_sameTx (l : Liu) : l.SameTx l.sampleSpace := by
  refine ⟨rfl, rfl, rfl, rfl, rfl, ?_, id⟩
  unfold Liu.sampleSpace
  cases h : l.access with
  | slotWait n => exact .inr ⟨⟨n, rfl⟩, rfl⟩
  | idle | gapWait | sending | breaking => exact .inl rfl

theorem Liu.enqueue_sameTx (l : Liu) (e : RxEntry) : l.SameTx (l.enqueue e) := by
  unfold Liu.enqueue; split
  · refine ⟨rfl, rfl, rfl, rfl, rfl, .inl rfl, fun _ => ?_⟩
    simp only [List.length_append, List.length_singleton]; omega
  · exact ⟨rfl, rfl, rfl, rfl, rfl, .inl rfl, id⟩

/-- The end of a frame touches the receiving side and the counters alone (R8). -/
theorem Liu.frameEnd_sameTx (l : Liu) (chars : List Byte) : l.SameTx (l.frameEnd chars) := by
  have base (r : Receiver) (c : LineCounters) : l.SameTx { l with receiver := r, counters := c } :=
    ⟨rfl, rfl, rfl, rfl, rfl, .inl rfl, id⟩
  unfold Liu.frameEnd; dsimp only; split
  · exact base _ _
  · split
    · exact base _ _
    · exact base _ _
    · exact (base .hunt l.counters).trans (Liu.enqueue_sameTx _ _)

/-- A character touches the receiving side, the counters and a wait alone (R5 to R8, R17, R19). -/
theorem Liu.takeChar_sameTx (l : Liu) (c : Byte) : l.SameTx (l.takeChar c) := by
  have base (x : Liu) (r : Receiver) (k : LineCounters) (h : l.SameTx x) : l.SameTx { x with receiver := r, counters := k } :=
    h.trans ⟨rfl, rfl, rfl, rfl, rfl, .inl rfl, id⟩
  have busy := Liu.sampleSpace_sameTx l
  unfold Liu.takeChar; dsimp only; split
  · split <;> exact base _ _ _ busy
  · exact base _ _ _ busy
  · split
    · exact busy.trans (Liu.frameEnd_sameTx _ _)
    · exact base _ _ _ busy
  · exact base _ _ _ busy

theorem Liu.takeChars_sameTx (l : Liu) (chars : List Byte) : l.SameTx (l.takeChars chars) := by
  induction chars generalizing l with
  | nil => exact .refl l
  | cons c cs ih => exact (Liu.takeChar_sameTx l c).trans (ih _)

/-- The generator never reads 0 once it does not (R22). -/
theorem backoffAdvance_ne_zero {r : BitVec 15} (h : r ≠ 0) : backoffAdvance r ≠ 0 := by
  intro hz
  apply h
  have bit (i : Nat) : (backoffAdvance r).getLsbD i = false := by rw [hz]; simp
  have low (j : Nat) (hj : j < 14) : r.getLsbD j = false := by
    have := bit (j + 1)
    simp only [backoffAdvance, BitVec.getLsbD_or, BitVec.getLsbD_shiftLeft] at this
    simp at this
    exact this.1 (by omega)
  have h13 := low 13 (by omega)
  have h14 : r.getLsbD 14 = false := by
    have := bit 0
    simp only [backoffAdvance, h13] at this
    cases hb : r.getLsbD 14
    · rfl
    · simp [hb] at this
  apply BitVec.eq_of_getLsbD_eq
  intro i hi
  rw [show (BitVec.getLsbD (0 : BitVec 15) i) = false by simp]
  rcases Nat.lt_or_ge i 14 with hlt | hge
  · exact low i hlt
  · obtain rfl : i = 14 := by omega
    exact h14

theorem backoffSeed_ne_zero (a i : Nat) : backoffSeed a i ≠ 0 := by
  unfold backoffSeed
  dsimp only
  split
  · decide
  · assumption

/-! ## Places in the queue (R13) -/

theorem length_insertByClass (e : TxEntry) (q : List TxEntry) : (insertByClass e q).length = q.length + 1 := by
  induction q with
  | nil => rfl
  | cons x xs ih => unfold insertByClass; split <;> simp [ih]

theorem mem_insertByClass {e y : TxEntry} {q : List TxEntry} : y ∈ insertByClass e q ↔ y = e ∨ y ∈ q := by
  induction q with
  | nil => simp [insertByClass]
  | cons x xs ih =>
    unfold insertByClass; split
    · simp
    · simp only [List.mem_cons, ih]; tauto

/-- Every URGENT frame stays ahead of every NORMAL one when a frame joins (R13). -/
theorem classOrdered_insertByClass (e : TxEntry) {q : List TxEntry} (h : classOrdered q) :
    classOrdered (insertByClass e q) := by
  induction q with
  | nil => simp [insertByClass, classOrdered]
  | cons x xs ih =>
    unfold insertByClass; split
    · rename_i hx
      refine ⟨fun he => by simp [hx.1] at he, h⟩
    · rename_i hx
      refine ⟨fun hn y hy => ?_, ih h.2⟩
      rcases mem_insertByClass.1 hy with rfl | hy
      · by_contra hc
        exact hx ⟨by simpa using hc, by simp [hn]⟩
      · exact h.1 hn y hy

theorem length_join (l : Liu) (e : TxEntry) : (l.join e).txq.length = l.txq.length + 1 := by
  have h : (l.insert e).length = l.txq.length + 1 := by
    unfold Liu.insert; split
    · rename_i x xs _ hq; simp [length_insertByClass, hq]
    · exact length_insertByClass e _
  unfold Liu.join; dsimp only; split
  · simpa using h
  · split <;> simpa using h
  · exact h

theorem length_removeLastNormal {q q' : List TxEntry} {v : TxEntry} (h : removeLastNormal q = some (v, q')) :
    q.length = q'.length + 1 := by
  induction q generalizing q' with
  | nil => simp [removeLastNormal] at h
  | cons x xs ih =>
    unfold removeLastNormal at h
    split at h
    · rename_i hx
      cases h
      simp [ih hx]
    · split at h
      · cases h
      · cases h; rfl

/-- The transmit queue never holds more than 6 frames after a posting (R12, R14). -/
theorem length_post (l : Liu) (e : TxEntry) (h : l.txq.length ≤ 6) : (l.post e).1.txq.length ≤ 6 := by
  unfold Liu.post
  split
  · rw [length_join]; omega
  · split
    · split
      · rename_i v q hq
        rw [length_join]
        have : l.txq.length = q.length + 1 := by
          unfold Liu.displaceable at hq
          split at hq
          · rename_i x xs _ hx
            cases hr : removeLastNormal xs with
            | none => simp [hr] at hq
            | some p =>
              simp only [hr, Option.map_some, Option.some.injEq, Prod.mk.injEq] at hq
              have := length_removeLastNormal (v := p.1) (q' := p.2) hr
              rw [hx, ← hq.2]; simp [this]
          · exact length_removeLastNormal hq
        simp only; omega
      · exact h
    · exact h

/-- A receive queue entry that finds four waiting is lost and counted (R10). -/
theorem length_enqueue (l : Liu) (e : RxEntry) (h : l.rxq.length ≤ 4) : (l.enqueue e).rxq.length ≤ 4 := by
  unfold Liu.enqueue
  split
  · rw [List.length_append]; simp only [List.length_singleton]; omega
  · exact h

end Sys2Proof.Machine
end

