-- ==== Sys2Proof/Laws/Base.lean ====
section
/-! SUPPORT. What the shared operations of the blocks never change: supplies and levels, Station Control, the retained
store, the free counter and the LIU's receiving side. One lemma for each operation, up to the end of an event. -/

namespace Sys2Proof.Machine

/-- What `Station.SameBase` compares. -/
structure Base where
  pins : Pins
  ctl : Control
  store : RetainedStore
  free : Nat
  running : Bool
  divisor : Nat
  lineBusy : Bool
  receiver : Receiver
  rxq : List RxEntry

def Station.basis (s : Station) : Base :=
  ⟨s.pins, s.ctl, s.store, s.free, s.liu.running, s.liu.divisor, s.liu.lineBusy, s.liu.receiver, s.liu.rxq⟩

theorem Station.sameBase_iff {a b : Station} : a.SameBase b ↔ b.basis = a.basis := by
  simp [Station.SameBase, Station.basis]

/-- Blocks other than Station Control, the LIU and the retained store are not part of the base. -/
@[simp] theorem Station.basis_with (x : Station) (r : RequestUnit) (u : SpanUnit) (q : Sequencer) (p : PromptUnit)
    (a : List AccRecord) :
    ({ pins := x.pins, ctl := x.ctl, liu := x.liu, req := r, span := u, seq := q, prm := p, acc := a,
       store := x.store, free := x.free } : Station).basis = x.basis := rfl

theorem Station.basis_liu (x : Station) {l : Liu} (r : RequestUnit) (u : SpanUnit) (q : Sequencer) (p : PromptUnit)
    (a : List AccRecord) (h : x.liu.SameRx l) :
    ({ pins := x.pins, ctl := x.ctl, liu := l, req := r, span := u, seq := q, prm := p, acc := a,
       store := x.store, free := x.free } : Station).basis = x.basis := by
  obtain ⟨h1, h2, h3, h4, h5⟩ := h
  simp [Station.basis, h1, h2, h3, h4, h5]

/-! ## Operations of Ops.lean -/

@[simp] theorem Station.updateEntry_basis (s : Station) (t : Tag) (f : Entry → Entry) :
    (s.updateEntry t f).basis = s.basis := rfl
@[simp] theorem Station.rescanPoint_basis (s : Station) : s.rescanPoint.basis = s.basis := rfl

@[simp] theorem Station.handOver_basis (s : Station) (t : Tag) : (s.handOver t).basis = s.basis := by
  unfold Station.handOver; split <;> simp

@[simp] theorem Station.leaveOwned_basis (s : Station) (t : Tag) : (s.leaveOwned t).basis = s.basis := by
  unfold Station.leaveOwned; dsimp only; split
  · split <;> simp [Station.rescanPoint]
  · simp

@[simp] theorem Station.ownToRest_basis (s : Station) : s.ownToRest.basis = s.basis := by
  unfold Station.ownToRest; split <;> simp

@[simp] theorem Station.offerDropped_basis (s : Station) (t : Tag) (c : Nat) : (s.offerDropped t c).basis = s.basis := rfl

@[simp] theorem Station.takeDropped_basis (s : Station) (t : Tag) (c : Nat) : (s.takeDropped t c).basis = s.basis := by
  unfold Station.takeDropped; split
  · split <;> simp
  · rfl

@[simp] theorem Station.doneDropped_basis (s : Station) (d : Done) : (s.doneDropped d).basis = s.basis := rfl

@[simp] theorem Station.spanDropped_basis (s : Station) (b : Bool) : (s.spanDropped b).basis = s.basis := by
  unfold Station.spanDropped; split <;> simp

@[simp] theorem Station.nudgeDropped_basis (s : Station) (a : Nat) : (s.nudgeDropped a).basis = s.basis := rfl
@[simp] theorem Station.promptDropped_basis (s : Station) (n : Nat) (l : Option Level) :
    (s.promptDropped n l).basis = s.basis := rfl
@[simp] theorem Station.clearDropped_basis (s : Station) (n : Nat) (r : Option ClearReason) (l : Nat) :
    (s.clearDropped n r l).basis = s.basis := rfl

@[simp] theorem Station.reportDrop_basis (s : Station) (f : Frame) (l : List Frame) : (s.reportDrop f l).basis = s.basis := by
  unfold Station.reportDrop; dsimp only
  repeat' split
  all_goals simp

/-- An operation of the LIU's transmit side, with the report of its drop, leaves the base alone (R14, R21). -/
theorem Station.settle_basis (s : Station) (r : Liu × Option TxEntry) (l : List Frame) (h : s.liu.SameRx r.1) :
    (s.settle r l).basis = s.basis := by
  unfold Station.settle; split
  · exact Station.basis_liu s _ _ _ _ _ h
  · rw [Station.reportDrop_basis]; exact Station.basis_liu s _ _ _ _ _ h

@[simp] theorem Station.post_basis (s : Station) (b : Block) (d : Nat) (m : Msg) : (s.post b d m).basis = s.basis :=
  Station.settle_basis s _ _ (Liu.post_sameRx _ _)

@[simp] theorem Station.postOwn_basis (s : Station) : s.postOwn.basis = s.basis := by
  unfold Station.postOwn; split
  · rfl
  · exact Station.settle_basis { s with span := { s.span with restateTimer := some 200 } } _ _ (Liu.postSpan_sameRx _ _)

@[simp] theorem Station.withdrawSpan_basis (s : Station) : s.withdrawSpan.1.basis = s.basis :=
  Station.basis_liu s _ _ _ _ _ (Liu.withdrawSpan_sameRx _)

/-! ## Operations of Prompts.lean -/

@[simp] theorem Station.updatePrompt_basis (s : Station) (n : Nat) (f : PromptEntry → PromptEntry) :
    (s.updatePrompt n f).basis = s.basis := rfl
@[simp] theorem Station.driveBeacon_basis (s : Station) : s.driveBeacon.basis = s.basis := rfl

@[simp] theorem Station.statePrompt_basis (s : Station) (n : Nat) : (s.statePrompt n).basis = s.basis := by
  unfold Station.statePrompt; dsimp only; split <;> simp

@[simp] theorem Station.showPrompt_basis (s : Station) (n : Nat) : (s.showPrompt n).basis = s.basis := by
  simp [Station.showPrompt]

@[simp] theorem Station.chooseShown_basis (s : Station) : s.chooseShown.basis = s.basis := by
  unfold Station.chooseShown; split <;> simp

@[simp] theorem Station.postClear_basis (s : Station) (n : Nat) (r : ClearReason) : (s.postClear n r).basis = s.basis := by
  simp [Station.postClear]

@[simp] theorem Station.preempt_basis (s : Station) (a b : Nat) : (s.preempt a b).basis = s.basis := by
  simp [Station.preempt]

@[simp] theorem Station.offerShown_basis (s : Station) (n : Nat) (l : Level) : (s.offerShown n l).basis = s.basis := by
  unfold Station.offerShown; split
  · simp
  · split <;> simp

@[simp] theorem Station.leavePrompt_basis (s : Station) (n : Nat) (r : ClearReason) :
    (s.leavePrompt n r).basis = s.basis := by
  unfold Station.leavePrompt; split
  · rfl
  · dsimp only; repeat' split
    all_goals simp

@[simp] theorem Station.withdrawPrompt_basis (s : Station) (u : Block) (n : Nat) :
    (s.withdrawPrompt u n).basis = s.basis := by
  unfold Station.withdrawPrompt; repeat' split
  all_goals simp

@[simp] theorem Station.updateAcc_basis (s : Station) (n : Nat) (f : AccRecord → AccRecord) :
    (s.updateAcc n f).basis = s.basis := rfl
@[simp] theorem Station.forgetWaiting_basis (s : Station) (n : Nat) : (s.forgetWaiting n).basis = s.basis := rfl
@[simp] theorem Station.toldDisplaced_basis (s : Station) (e : PromptEntry) : (s.toldDisplaced e).basis = s.basis := by
  unfold Station.toldDisplaced; split <;> simp
@[simp] theorem Station.toldExpired_basis (s : Station) (e : PromptEntry) : (s.toldExpired e).basis = s.basis := by
  unfold Station.toldExpired; split <;> simp

@[simp] theorem Station.acceptRaise_basis (s : Station) (k : PromptKind) (f : PromptFields) :
    (s.acceptRaise k f).1.basis = s.basis := by
  simp [Station.acceptRaise]

@[simp] theorem Station.raise_basis (s : Station) (k : PromptKind) (f : PromptFields) : (s.raise k f).1.basis = s.basis := by
  unfold Station.raise; repeat' split
  all_goals simp

theorem Station.raise_basis_of {s s1 : Station} {k : PromptKind} {f : PromptFields} {n : Option Nat}
    (h : s.raise k f = (s1, n)) : s1.basis = s.basis := by
  rw [← Station.raise_basis s k f, h]

@[simp] theorem Station.setAcc_basis (s : Station) (x : Subject) (f : AccRecord → AccRecord) :
    (s.setAcc x f).basis = s.basis := rfl

@[simp] theorem Station.raiseSubject_basis (s : Station) (x : Subject) : (s.raiseSubject x).basis = s.basis := by
  unfold Station.raiseSubject; split
  all_goals (rename_i h; simp [Station.raise_basis_of h])

@[simp] theorem Station.callFor_basis (s : Station) (x : Subject) : (s.callFor x).basis = s.basis := by
  unfold Station.callFor; split <;> simp

@[simp] theorem Station.causeGone_basis (s : Station) (x : Subject) : (s.causeGone x).basis = s.basis := by
  unfold Station.causeGone; split <;> simp

/-- A run of operations that each leave the base alone leaves it alone. -/
theorem Station.foldl_basis {α : Type} (f : Station → α → Station) (h : ∀ s x, (f s x).basis = s.basis) (l : List α)
    (s : Station) : (l.foldl f s).basis = s.basis := by
  induction l generalizing s with
  | nil => rfl
  | cons x xs ih => rw [List.foldl_cons, ih, h]

@[simp] theorem Station.raiseWanted_basis (s : Station) (l : List Subject) : (s.raiseWanted l).basis = s.basis :=
  Station.foldl_basis _ Station.raiseSubject_basis l s

@[simp] theorem Station.expirePrompt_basis (s : Station) (e : PromptEntry) : (s.expirePrompt e).basis = s.basis := by
  simp [Station.expirePrompt]

@[simp] theorem Station.escalatePrompt_basis (s : Station) (e : PromptEntry) : (s.escalatePrompt e).basis = s.basis := by
  unfold Station.escalatePrompt; dsimp only; repeat' split
  all_goals simp

@[simp] theorem Station.advanceDrops_basis (s : Station) : s.advanceDrops.basis = s.basis := rfl

@[simp] theorem Station.repostClear_basis (s : Station) (c : ClearRecord) : (s.repostClear c).basis = s.basis := by
  unfold Station.repostClear; split <;> simp

@[simp] theorem Station.repostDropped_basis (s : Station) : s.repostDropped.basis = s.basis := by
  unfold Station.repostDropped; dsimp only; split
  · rw [Station.foldl_basis _ (fun s c => Station.repostClear_basis s c),
      Station.foldl_basis _ (fun s e => Station.statePrompt_basis s _)]
  · rfl

@[simp] theorem Station.promptEcho_basis (s : Station) (n : Nat) (l : Level) : (s.promptEcho n l).basis = s.basis := rfl
@[simp] theorem Station.clearEcho_basis (s : Station) (n : Nat) (r : ClearReason) : (s.clearEcho n r).basis = s.basis := rfl

/-! ## Operations of Spans.lean -/

@[simp] theorem Station.sendStop_basis (s : Station) (c : StopCauses) : (s.sendStop c).basis = s.basis := by
  unfold Station.sendStop; split <;> simp

@[simp] theorem Station.stateOwn_basis (s : Station) (o : OwnSpan) : (s.stateOwn o).basis = s.basis := by
  simp [Station.stateOwn]

@[simp] theorem Station.updateRest_basis (s : Station) : s.updateRest.basis = s.basis := by
  unfold Station.updateRest; dsimp only; repeat' split
  all_goals simp

@[simp] theorem Station.clearRailBlocked_basis (s : Station) : s.clearRailBlocked.basis = s.basis := by
  unfold Station.clearRailBlocked; dsimp only; split <;> simp

@[simp] theorem Station.raiseRailBlocked_basis (s : Station) : s.raiseRailBlocked.basis = s.basis := by
  unfold Station.raiseRailBlocked; split
  · rfl
  · split
    · split
      all_goals (rename_i h; simp [Station.raise_basis_of h])
    · rfl

@[simp] theorem Station.ask_basis (s : Station) (w : OwnSpan) : (s.ask w).basis = s.basis := by simp [Station.ask]

@[simp] theorem Station.nudgePeer_basis (s : Station) (w : OwnSpan) (p : PeerSpan) : (s.nudgePeer w p).basis = s.basis := by
  unfold Station.nudgePeer; dsimp only; repeat' split
  all_goals simp

@[simp] theorem Station.evaluate_basis (s : Station) : s.evaluate.basis = s.basis := by
  unfold Station.evaluate; split
  · dsimp only; split
    · simp
    · exact Station.foldl_basis _ (fun s p => Station.nudgePeer_basis s _ p) _ _
  · rfl

@[simp] theorem Station.beginMove_basis (s : Station) (c t : Nat) (p : Purpose) : (s.beginMove c t p).basis = s.basis := by
  unfold Station.beginMove; dsimp only; split <;> simp

@[simp] theorem Station.requestMove_basis (s : Station) (t : Nat) (p : Purpose) : (s.requestMove t p).1.basis = s.basis := by
  unfold Station.requestMove; repeat' split
  all_goals simp

theorem Station.requestMove_basis_of {s s1 : Station} {t : Nat} {p : Purpose} {a : MoveAnswer}
    (h : s.requestMove t p = (s1, a)) : s1.basis = s.basis := by
  rw [← Station.requestMove_basis s t p, h]

@[simp] theorem Station.parkReservation_basis (s : Station) : s.parkReservation.basis = s.basis := rfl

@[simp] theorem Station.giveUpMove_basis (s : Station) : s.giveUpMove.basis = s.basis := by
  unfold Station.giveUpMove; dsimp only; split <;> simp

@[simp] theorem Station.giveWay_basis (s : Station) : s.giveWay.basis = s.basis := by
  unfold Station.giveWay; split <;> simp

@[simp] theorem Station.parkAt_basis (s : Station) (p : Nat) : (s.parkAt p).basis = s.basis := by simp [Station.parkAt]

@[simp] theorem Station.stoppedOnOwn_basis (s : Station) : s.stoppedOnOwn.basis = s.basis := by
  unfold Station.stoppedOnOwn; dsimp only; split <;> simp

@[simp] theorem Station.holdSpan_basis (s : Station) : s.holdSpan.basis = s.basis := by
  unfold Station.holdSpan; dsimp only; split <;> simp

@[simp] theorem Station.conditionCleared_basis (s : Station) : s.conditionCleared.basis = s.basis := by
  unfold Station.conditionCleared; split <;> simp

@[simp] theorem Station.reportPosition_basis (s : Station) (p : Nat) : (s.reportPosition p).basis = s.basis := by
  unfold Station.reportPosition; dsimp only; repeat' split
  all_goals simp

@[simp] theorem Station.spanEcho_basis (s : Station) (k : SpanKind) (lo hi : Nat) (f : Bool) :
    (s.spanEcho k lo hi f).basis = s.basis := by
  unfold Station.spanEcho; dsimp only; repeat' split
  all_goals simp

@[simp] theorem Station.enterPeer_basis (s : Station) (p : PeerSpan) : (s.enterPeer p).basis = s.basis := rfl

@[simp] theorem Station.peerHeard_basis (s : Station) (a : Nat) : (s.peerHeard a).basis = s.basis := by
  unfold Station.peerHeard; dsimp only; repeat' split
  all_goals simp

@[simp] theorem Station.loseAsking_basis (s : Station) : s.loseAsking.basis = s.basis := by
  unfold Station.loseAsking; dsimp only; split <;> simp

@[simp] theorem Station.loseGrant_basis (s : Station) : s.loseGrant.basis = s.basis := by
  unfold Station.loseGrant; dsimp only; repeat' split
  all_goals simp

@[simp] theorem Station.challenged_basis (s : Station) (o : OwnSpan) (i : Nat) (r : Bool) :
    (s.challenged o i r).basis = s.basis := by
  unfold Station.challenged; repeat' split
  all_goals simp

@[simp] theorem Station.reserveAgainst_basis (s : Station) (i lo hi : Nat) (r : Bool) :
    (s.reserveAgainst i lo hi r).basis = s.basis := by
  unfold Station.reserveAgainst; repeat' split
  all_goals simp

@[simp] theorem Station.peerSpan_basis (s : Station) (a i : Nat) (k : SpanKind) (lo hi : Nat) (r : Bool) :
    (s.peerSpan a i k lo hi r).basis = s.basis := by simp [Station.peerSpan]

@[simp] theorem Station.serveNudges_basis (s : Station) (c : Nat) (l : List HeldNudge) :
    (s.serveNudges c l).basis = s.basis := by
  induction l with
  | nil => rfl
  | cons n rest ih =>
    unfold Station.serveNudges; dsimp only; repeat' split
    all_goals simp [ih]

@[simp] theorem Station.serveHeld_basis (s : Station) : s.serveHeld.basis = s.basis := by
  unfold Station.serveHeld; repeat' split
  all_goals simp

@[simp] theorem Station.takeNudge_basis (s : Station) (w : Bool) (b r : Nat) : (s.takeNudge w b r).basis = s.basis := by
  unfold Station.takeNudge; dsimp only; repeat' split
  all_goals simp

@[simp] theorem Station.waitExpired_basis (s : Station) : s.waitExpired.basis = s.basis := by
  unfold Station.waitExpired; dsimp only; repeat' split
  all_goals simp

@[simp] theorem Station.railAnswered_basis (s : Station) : s.railAnswered.basis = s.basis := by
  unfold Station.railAnswered; dsimp only; split <;> simp

@[simp] theorem Station.markStale_basis (s : Station) : s.markStale.basis = s.basis := rfl

@[simp] theorem Station.raiseSilent_basis (s : Station) (a : Nat) : (s.raiseSilent a).basis = s.basis := by
  unfold Station.raiseSilent; split
  all_goals (rename_i h; simp [Station.raise_basis_of h])

end Sys2Proof.Machine
end

