-- ==== Sys2Proof/Laws/Ends.lean ====
section
/-! SUPPORT. What the carriage's and the claims' operations never change, the end of an event above all, and the end of an
event at which nothing is owed. -/

namespace Sys2Proof.Machine

/-! ## Operations of Carriage.lean -/

@[simp] theorem Station.issue_basis (s : Station) (c : Command) (p : Purpose) : (s.issue c p).basis = s.basis := rfl
@[simp] theorem Station.issueCheck_basis (s : Station) : s.issueCheck.basis = s.basis := rfl
@[simp] theorem Station.updateRecord_basis (s : Station) (f : ReqRecord → ReqRecord) :
    (s.updateRecord f).basis = s.basis := rfl

@[simp] theorem Station.raiseBound_basis (s : Station) (k : PromptKind) (r : Stage) (p d : Option Nat) :
    (s.raiseBound k r p d).basis = s.basis := by
  unfold Station.raiseBound; split <;> simp

@[simp] theorem Station.postDone_basis (s : Station) (d : Done) : (s.postDone d).basis = s.basis := by
  simp [Station.postDone]

@[simp] theorem Station.complete_basis (s : Station) : s.complete.basis = s.basis := by
  unfold Station.complete; split <;> simp

@[simp] theorem Station.doneEcho_basis (s : Station) (d : Done) : (s.doneEcho d).basis = s.basis := rfl

@[simp] theorem Station.repostDone_basis (s : Station) : s.repostDone.basis = s.basis := by
  unfold Station.repostDone; dsimp only
  rw [Station.foldl_basis _ (fun s x => Station.post_basis s _ _ _)]; simp

@[simp] theorem Station.raiseFault_basis (s : Station) : s.raiseFault.basis = s.basis := by
  unfold Station.raiseFault; dsimp only; split <;> simp

@[simp] theorem Station.learningFault_basis (s : Station) : s.learningFault.basis = s.basis := by
  simp [Station.learningFault]

@[simp] theorem Station.openFault_basis (s : Station) (c : Command) (p : Purpose) : (s.openFault c p).basis = s.basis := by
  unfold Station.openFault; dsimp only; repeat' split
  all_goals simp

@[simp] theorem Station.raiseHandLoaded_basis (s : Station) : s.raiseHandLoaded.basis = s.basis := by
  simp [Station.raiseHandLoaded]

@[simp] theorem Station.orphanRaise_basis (s : Station) : s.orphanRaise.basis = s.basis := by
  unfold Station.orphanRaise; split <;> simp

@[simp] theorem Station.handEmptied_basis (s : Station) : s.handEmptied.basis = s.basis := by
  unfold Station.handEmptied; dsimp only; split <;> simp

@[simp] theorem Station.pickOk_basis (s : Station) : s.pickOk.basis = s.basis := by
  unfold Station.pickOk; split <;> simp

@[simp] theorem Station.orphaned_basis (s : Station) (p : Place) : (s.orphaned p).basis = s.basis := rfl

@[simp] theorem Station.placeOk_basis (s : Station) : s.placeOk.basis = s.basis := by
  unfold Station.placeOk; repeat' split
  all_goals simp

@[simp] theorem Station.takeUp_basis (s : Station) (c : Command) (p : Purpose) : (s.takeUp c p).basis = s.basis := by
  unfold Station.takeUp; repeat' split
  all_goals simp

@[simp] theorem Station.takeUpResume_basis (s : Station) : s.takeUpResume.basis = s.basis := by
  unfold Station.takeUpResume; repeat' split
  all_goals simp

@[simp] theorem Station.askMove_basis (s : Station) (t : Nat) (p : Purpose) : (s.askMove t p).basis = s.basis := by
  unfold Station.askMove; repeat' split
  · rfl
  · rename_i h; simp [Station.requestMove_basis_of h]
  · rfl
  · simp

@[simp] theorem Station.stageStep_basis (s : Station) : s.stageStep.basis = s.basis := by
  unfold Station.stageStep; dsimp only; repeat' split
  all_goals simp

@[simp] theorem Station.putBackStep_basis (s : Station) : s.putBackStep.basis = s.basis := by
  unfold Station.putBackStep; repeat' split
  all_goals simp

@[simp] theorem Station.abandon_basis (s : Station) (t : Tag) : (s.abandon t).basis = s.basis := by
  unfold Station.abandon; repeat' split
  all_goals simp

@[simp] theorem Station.abandonAll_basis (s : Station) (f : FaultRecord) : (s.abandonAll f).basis = s.basis := by
  unfold Station.abandonAll; dsimp only
  rw [Station.basis_with, Station.foldl_basis _ Station.abandon_basis]

@[simp] theorem Station.faultStep_basis (s : Station) (f : FaultRecord) : (s.faultStep f).basis = s.basis := by
  unfold Station.faultStep; dsimp only; repeat' split
  all_goals simp

@[simp] theorem Station.nextStep_basis (s : Station) : s.nextStep.basis = s.basis := by
  unfold Station.nextStep; repeat' split
  all_goals simp

@[simp] theorem Station.chooseNext_basis (s : Station) : s.chooseNext.basis = s.basis := by
  unfold Station.chooseNext; dsimp only; repeat' split
  all_goals simp

@[simp] theorem Station.dropRequest_basis (s : Station) (t : Tag) : (s.dropRequest t).basis = s.basis := by
  unfold Station.dropRequest; dsimp only; repeat' split
  all_goals simp

@[simp] theorem Station.recordResume_basis (s : Station) (f : InFlight) : (s.recordResume f).basis = s.basis := by
  unfold Station.recordResume; split <;> simp

@[simp] theorem Station.arriveAt_basis (s : Station) (p : Nat) : (s.arriveAt p).basis = s.basis := by
  unfold Station.arriveAt; dsimp only; split <;> simp

@[simp] theorem Station.travelDone_basis (s : Station) (f : InFlight) (t : Nat) (c : Code) :
    (s.travelDone f t c).basis = s.basis := by
  unfold Station.travelDone; dsimp only; repeat' split
  all_goals simp

@[simp] theorem Station.pickEnd_basis (s : Station) (f : InFlight) (p : Place) (c : Code) :
    (s.pickEnd f p c).basis = s.basis := by
  unfold Station.pickEnd; repeat' split
  all_goals simp

@[simp] theorem Station.raiseOccupied_basis (s : Station) (p : Place) : (s.raiseOccupied p).basis = s.basis := by
  unfold Station.raiseOccupied; split <;> simp

@[simp] theorem Station.putBackEnd_basis (s : Station) (f : InFlight) (c : Code) : (s.putBackEnd f c).basis = s.basis := by
  unfold Station.putBackEnd; split <;> simp

@[simp] theorem Station.placeEnd_basis (s : Station) (f : InFlight) (p : Place) (c : Code) :
    (s.placeEnd f p c).basis = s.basis := by
  unfold Station.placeEnd; repeat' split
  all_goals simp

@[simp] theorem Station.labelOk_basis (s : Station) (u w1 w2 w3 : Word) : (s.labelOk u w1 w2 w3).basis = s.basis := by
  unfold Station.labelOk; repeat' split
  all_goals simp

@[simp] theorem Station.labelEnd_basis (s : Station) (f : InFlight) (u w1 w2 w3 : Word) (c : Code) :
    (s.labelEnd f u w1 w2 w3 c).basis = s.basis := by
  unfold Station.labelEnd; repeat' split
  all_goals simp

@[simp] theorem Station.ringEnd_basis (s : Station) (f : InFlight) (p : Word) (c : Code) :
    (s.ringEnd f p c).basis = s.basis := by
  unfold Station.ringEnd; repeat' split
  all_goals simp

@[simp] theorem Station.retryDone_basis (s : Station) (f : FaultRecord) (p : Nat) : (s.retryDone f p).basis = s.basis := by
  simp [Station.retryDone]

@[simp] theorem Station.releaseDone_basis (s : Station) (f : FaultRecord) (p : Nat) (l : Bool) :
    (s.releaseDone f p l).basis = s.basis := by
  unfold Station.releaseDone; split <;> simp

@[simp] theorem Station.reportOk_basis (s : Station) (p : Nat) (l : Bool) : (s.reportOk p l).basis = s.basis := by
  unfold Station.reportOk; dsimp only; repeat' split
  all_goals simp

@[simp] theorem Station.releaseStopped_basis (s : Station) (f : FaultRecord) : (s.releaseStopped f).basis = s.basis := by
  unfold Station.releaseStopped; split <;> simp

@[simp] theorem Station.reportEnd_basis (s : Station) (f : InFlight) (p l : Word) (c : Code) :
    (s.reportEnd f p l c).basis = s.basis := by
  unfold Station.reportEnd; repeat' split
  all_goals simp

@[simp] theorem Station.stopEnd_basis (s : Station) (w : Word) : (s.stopEnd w).basis = s.basis := by
  unfold Station.stopEnd; repeat' split
  all_goals simp

@[simp] theorem Station.boundEffect_basis (s : Station) (r : ReqRecord) (c : Call) (k : PromptKind) (a : Answer) :
    (s.boundEffect r c k a).basis = s.basis := by
  unfold Station.boundEffect; dsimp only; split <;> simp

@[simp] theorem Station.boundAnswer_basis (s : Station) (n : Nat) (k : PromptKind) (a : Answer) :
    (s.boundAnswer n k a).basis = s.basis := by
  unfold Station.boundAnswer; repeat' split
  all_goals simp

@[simp] theorem Station.faultAnswer_basis (s : Station) (n : Nat) (a : Answer) : (s.faultAnswer n a).basis = s.basis := rfl

@[simp] theorem Station.handAnswer_basis (s : Station) (n : Nat) : (s.handAnswer n).basis = s.basis := by
  unfold Station.handAnswer; split <;> simp

@[simp] theorem Station.setLatch_basis (s : Station) : s.setLatch.basis = s.basis := by simp [Station.setLatch]

@[simp] theorem Station.raiseDoor_basis (s : Station) : s.raiseDoor.basis = s.basis := by simp [Station.raiseDoor]

@[simp] theorem Station.doorTimerEnd_basis (s : Station) : s.doorTimerEnd.basis = s.basis := by
  unfold Station.doorTimerEnd; dsimp only; split <;> simp

@[simp] theorem Station.doorHeard_basis (s : Station) (o : Bool) (a n : Nat) : (s.doorHeard o a n).basis = s.basis := rfl

@[simp] theorem Station.doorRelease_basis (s : Station) : s.doorRelease.basis = s.basis := by
  unfold Station.doorRelease; dsimp only; repeat' split
  all_goals simp

@[simp] theorem Station.retryRaises_basis (s : Station) : s.retryRaises.basis = s.basis := by
  unfold Station.retryRaises; dsimp only; repeat' split
  all_goals simp

/-! ## Operations of Claims.lean -/

@[simp] theorem Station.withdrawWaiting_basis (s : Station) (t : Tag) : (s.withdrawWaiting t).basis = s.basis := by
  unfold Station.withdrawWaiting; split <;> simp

@[simp] theorem Station.endOffer_basis (s : Station) (t : Tag) : (s.endOffer t).basis = s.basis := by
  unfold Station.endOffer; split <;> simp

@[simp] theorem Station.removeEntry_basis (s : Station) (t : Tag) : (s.removeEntry t).basis = s.basis := by
  simp [Station.removeEntry]

@[simp] theorem Station.setPeer_basis (s : Station) (t : Tag) (o : Owner) : (s.setPeer t o).basis = s.basis := by
  simp [Station.setPeer]

@[simp] theorem Station.postOffer_basis (s : Station) (t : Tag) (c b : Nat) : (s.postOffer t c b).basis = s.basis := by
  simp [Station.postOffer]

@[simp] theorem Station.offerOn_basis (s : Station) (e : Entry) : (s.offerOn e).basis = s.basis := by
  unfold Station.offerOn; repeat' split
  all_goals simp

@[simp] theorem Station.record_basis (s : Station) (c : Call) : (s.record c).basis = s.basis := by simp [Station.record]

@[simp] theorem Station.counterOffer_basis (s : Station) (t : Tag) (o : Offer) : (s.counterOffer t o).basis = s.basis := by
  unfold Station.counterOffer; repeat' split
  all_goals simp

@[simp] theorem Station.reassert_basis (s : Station) (t : Tag) : (s.reassert t).basis = s.basis := by
  simp [Station.reassert]

@[simp] theorem Station.offerEcho_basis (s : Station) (t : Tag) : (s.offerEcho t).basis = s.basis := rfl

@[simp] theorem Station.offerHeard_basis (s : Station) (w : Bool) (t : Tag) (o : Offer) :
    (s.offerHeard w t o).basis = s.basis := by
  unfold Station.offerHeard; dsimp only; repeat' split
  all_goals simp

@[simp] theorem Station.takeCall_basis (s : Station) (t : Tag) (c : Nat) : (s.takeCall t c).basis = s.basis := by
  simp [Station.takeCall]

@[simp] theorem Station.windowExpired_basis (s : Station) (t : Tag) : (s.windowExpired t).basis = s.basis := by
  unfold Station.windowExpired; repeat' split
  all_goals simp

@[simp] theorem Station.takeWaitExpired_basis (s : Station) (t : Tag) : (s.takeWaitExpired t).basis = s.basis := by
  unfold Station.takeWaitExpired; repeat' split
  all_goals simp

@[simp] theorem Station.holdEnded_basis (s : Station) (t : Tag) : (s.holdEnded t).basis = s.basis := by
  unfold Station.holdEnded; dsimp only; repeat' split
  all_goals simp

@[simp] theorem Station.takeEcho_basis (s : Station) (t : Tag) : (s.takeEcho t).basis = s.basis := rfl

@[simp] theorem Station.yieldTo_basis (s : Station) (t : Tag) (o : Owner) : (s.yieldTo t o).basis = s.basis := by
  simp [Station.yieldTo]

@[simp] theorem Station.loseOwned_basis (s : Station) (t : Tag) (o : Owner) : (s.loseOwned t o).basis = s.basis := by
  simp [Station.loseOwned]

@[simp] theorem Station.settleOwned_basis (s : Station) (t : Tag) (e : Entry) (o : Owner) :
    (s.settleOwned t e o).basis = s.basis := by
  unfold Station.settleOwned; dsimp only; repeat' split
  all_goals simp

@[simp] theorem Station.takeHeard_basis (s : Station) (t : Tag) (o : Owner) : (s.takeHeard t o).basis = s.basis := by
  unfold Station.takeHeard; repeat' split
  all_goals simp

@[simp] theorem Station.ownDone_basis (s : Station) (t : Tag) : (s.ownDone t).basis = s.basis := by
  unfold Station.ownDone; split <;> simp

@[simp] theorem Station.peerDone_basis (s : Station) (t : Tag) : (s.peerDone t).basis = s.basis := by
  unfold Station.peerDone; repeat' split
  all_goals simp

@[simp] theorem Station.reopen_basis (s : Station) (a : Nat) : (s.reopen a).basis = s.basis := by
  unfold Station.reopen; split <;> simp

theorem Station.rescanEntries_basis (s : Station) (n : Nat) (l : List Entry) : (s.rescanEntries n l).basis = s.basis := by
  induction l generalizing s n with
  | nil => unfold Station.rescanEntries; split <;> first | rfl | contradiction
  | cons e es ih =>
    cases n with
    | zero => rfl
    | succ n =>
      unfold Station.rescanEntries; split
      · rw [ih]; simp
      · exact ih ..

@[simp] theorem Station.doRescan_basis (s : Station) : s.doRescan.basis = s.basis := by
  unfold Station.doRescan; dsimp only; repeat' split
  · rw [Station.rescanEntries_basis]; simp
  · simp
  · rfl

@[simp] theorem Station.ageOut_basis (s : Station) : s.ageOut.basis = s.basis :=
  Station.foldl_basis _ (fun s _ => Station.removeEntry_basis s _) _ _

@[simp] theorem Station.raiseWaiting_basis (s : Station) (e : Entry) : (s.raiseWaiting e).basis = s.basis := by
  unfold Station.raiseWaiting; split
  all_goals (rename_i h; simp [Station.raise_basis_of h])

@[simp] theorem Station.raiseAllWaiting_basis (s : Station) : s.raiseAllWaiting.basis = s.basis :=
  Station.foldl_basis _ Station.raiseWaiting_basis _ _

@[simp] theorem Station.noticeWaiting_basis (s : Station) (t : Tag) : (s.noticeWaiting t).basis = s.basis := rfl

/-! ## The end of an event -/

/-- The end of an event leaves supplies, Station Control, the retained store, the free counter and the LIU's receiving side
as they are. -/
@[simp] theorem Station.finish_basis (s : Station) : s.finish.basis = s.basis := by simp [Station.finish]

theorem Station.finish_sameBase (s : Station) : s.SameBase s.finish := Station.sameBase_iff.2 (Station.finish_basis s)

@[simp] theorem Station.finish_ctl (s : Station) : s.finish.ctl = s.ctl := s.finish_sameBase.2.1
@[simp] theorem Station.finish_pins (s : Station) : s.finish.pins = s.pins := s.finish_sameBase.1
@[simp] theorem Station.finish_store (s : Station) : s.finish.store = s.store := s.finish_sameBase.2.2.1
@[simp] theorem Station.finish_free (s : Station) : s.finish.free = s.free := s.finish_sameBase.2.2.2.1
@[simp] theorem Station.finish_rxq (s : Station) : s.finish.liu.rxq = s.liu.rxq := s.finish_sameBase.2.2.2.2.2.2.2.2

/-- With a command in flight the Sequencer chooses none (R130). -/
theorem Station.chooseNext_of_busy (s : Station) (h : s.seq.cmd.isSome = true) : s.chooseNext = s := by
  unfold Station.chooseNext
  have : s.seq.idle = false := by unfold Sequencer.idle; simp [Option.isNone_iff_eq_none, Option.isSome_iff_ne_none.1 h]
  simp [this]

/-- Without a rescan point in the event there is no rescan (R94). -/
theorem Station.doRescan_of_clear (s : Station) (h : s.req.rescan = false) : s.doRescan = s := by
  unfold Station.doRescan; simp [h]

/-- With no dropped PROMPT or PROMPT-CLEAR due, none is posted again (R164, R165). -/
theorem Station.repostDropped_of_none (s : Station) (h : ∀ e ∈ s.prm.list, e.drop ≠ .due)
    (k : ∀ c ∈ s.prm.clears, c.drop ≠ .due) : s.repostDropped = s := by
  have hl : (s.prm.list.filter fun e => e.shown && e.drop == .due) = [] := by
    rw [List.filter_eq_nil_iff]; intro e he; simp [h e he]
  have hc : (s.prm.clears.filter fun c => c.drop == .due) = [] := by
    rw [List.filter_eq_nil_iff]; intro c hc; simp [k c hc]
  unfold Station.repostDropped
  dsimp only
  rw [hl]
  simp only [List.foldl_nil]
  rw [hc]
  simp

/-- An event after which nothing is owed ends as it stands. -/
theorem Station.finish_of_quiet (s : Station) (h : s.Quiet) : s.finish = s := by
  unfold Station.finish
  rw [Station.chooseNext_of_busy s h.1, Station.doRescan_of_clear s h.2.1, Station.repostDropped_of_none s h.2.2.1 h.2.2.2]

end Sys2Proof.Machine
end

