-- ==== Sys2Proof/Laws/Claims.lean ====
section
/-! SUPPORT. The request table: finding and changing the entry of a tag, and what the shared operations of the claims do to the
table's tags. -/

namespace Sys2Proof.Machine

/-- The entry found has the tag. -/
theorem RequestUnit.tag_of_find {r : RequestUnit} {t : Tag} {e : Entry} (h : r.find t = some e) : e.call.tag = t := by
  have := List.find?_some h
  simpa using this

theorem RequestUnit.mem_of_find {r : RequestUnit} {t : Tag} {e : Entry} (h : r.find t = some e) : e ∈ r.table :=
  List.mem_of_find?_eq_some h

/-- A tag that no entry has is not found. -/
theorem RequestUnit.find_eq_none {r : RequestUnit} {t : Tag} : r.find t = none ↔ ∀ e ∈ r.table, e.call.tag ≠ t := by
  simp [RequestUnit.find]

/-- Changing the entry of a tag changes what is found under it. -/
theorem RequestUnit.find_update {r : RequestUnit} {t : Tag} {e : Entry} (f : Entry → Entry) (hf : ∀ e, (f e).call = e.call)
    (h : r.find t = some e) : (r.update t f).find t = some (f e) := by
  unfold RequestUnit.find RequestUnit.update at *
  dsimp only
  generalize r.table = q at h
  induction q with
  | nil => simp at h
  | cons a as ih =>
    rw [List.map_cons, List.find?_cons]
    rw [List.find?_cons] at h
    by_cases ha : a.call.tag = t
    · simp only [ha, beq_self_eq_true, if_true, hf] at h ⊢
      cases h; rfl
    · simp only [ha, if_false, beq_eq_false_iff_ne.2 ha] at h ⊢
      exact ih h

theorem RequestUnit.find_update_none {r : RequestUnit} {t u : Tag} (f : Entry → Entry) (hf : ∀ e, (f e).call = e.call)
    (h : r.find u = none) : (r.update t f).find u = none := by
  rw [RequestUnit.find_eq_none] at h ⊢
  intro e he
  simp only [RequestUnit.update, List.mem_map] at he
  obtain ⟨a, ha, rfl⟩ := he
  split
  · rw [hf]; exact h a ha
  · exact h a ha

/-- A change that keeps every call keeps the table's tags and its length (R77). -/
theorem RequestUnit.update_tags (r : RequestUnit) (t : Tag) (f : Entry → Entry) (hf : ∀ e, (f e).call = e.call) :
    (r.update t f).table.map (fun e => e.call.tag) = r.table.map fun e => e.call.tag := by
  simp only [RequestUnit.update, List.map_map]
  apply List.map_congr_left
  intro e _
  simp only [Function.comp]
  split
  · rw [hf]
  · rfl

theorem RequestUnit.update_ok {r : RequestUnit} (t : Tag) (f : Entry → Entry) (hf : ∀ e, (f e).call = e.call) (h : r.Ok) :
    (r.update t f).Ok := by
  unfold RequestUnit.Ok at *
  rw [RequestUnit.update_tags r t f hf]
  exact ⟨by simpa [RequestUnit.update] using h.1, h.2⟩

/-- Changing the entries of a tag that no entry has changes nothing. -/
theorem RequestUnit.update_of_none {r : RequestUnit} {t : Tag} (f : Entry → Entry) (h : r.find t = none) :
    r.update t f = r := by
  rw [RequestUnit.find_eq_none] at h
  have : r.table.map (fun e => if e.call.tag = t then f e else e) = r.table := by
    conv => rhs; rw [← List.map_id r.table]
    apply List.map_congr_left
    intro a ha
    simp [h a ha]
  unfold RequestUnit.update
  rw [this]

/-- With no prompt of the entry standing, none is withdrawn (R101). -/
theorem Station.withdrawWaiting_of_none {s : Station} {t : Tag} (h : ∀ e, s.req.find t = some e → e.prompt = none) :
    s.withdrawWaiting t = s := by
  unfold Station.withdrawWaiting
  cases hf : s.req.find t with
  | none => rfl
  | some e => simp [h e hf]

/-- Only an entry in BIDDING with an own offer ends an offer (R94). -/
theorem Station.endOffer_of_find {s : Station} {t : Tag} {e : Entry} (h : s.req.find t = some e) :
    s.endOffer t = if e.state = .bidding ∧ e.ownOffer.isSome = true then s.rescanPoint else s := by
  unfold Station.endOffer RequestUnit.offerOut
  rw [h]
  simp [Entry.outstanding]

/-- The claim order of two reasserts and of a reassert and a first TAKE (R88). -/
theorem Claim.beats_reassert {a b : Claim} (h : a.cost = 0) :
    a.beats b = if b.cost = 0 then (if a.loaded = b.loaded then decide (a.index < b.index) else a.loaded) else true := by
  simp [Claim.beats, h]

theorem Claim.beats_first {a b : Claim} (h : a.cost ≠ 0) :
    a.beats b = if b.cost = 0 then false else (Offer.mk a.cost a.index).beats ⟨b.cost, b.index⟩ := by
  simp [Claim.beats, h]

end Sys2Proof.Machine
end

