-- ==== Sys2Proof/Laws/Hearing.lean ====
section
/-! SUPPORT. Handing out the frame at the head of the receive queue: what a taken frame does, and the KIND of an accepted
frame. -/

namespace Sys2Proof.Machine

theorem eq_of_guarded {α : Type} {b : Bool} {x y : α} (h : guarded b x = some y) : b = true ∧ x = y := by
  unfold guarded at h; split at h
  · exact ⟨‹_›, Option.some.inj h⟩
  · cases h

theorem readMountCall_code {c : Nat} {b : List Byte} {m : Msg} (h : readMountCall c b = some m) : m.code = 0x11 := by
  unfold readMountCall at h
  split at h
  · split at h
    · obtain ⟨hb, rfl⟩ := eq_of_guarded h
      simp only [Bool.and_eq_true, bne_iff_ne] at hb
      simp [Msg.code, hb.1.1.1.1]
    · cases h
  · cases h

theorem readDemountCall_code {c : Nat} {b : List Byte} {m : Msg} (h : readDemountCall c b = some m) : m.code = 0x12 := by
  unfold readDemountCall at h
  split at h
  · split at h
    · obtain ⟨-, rfl⟩ := eq_of_guarded h; rfl
    · cases h
  · cases h

theorem readOffer_code {n : Nat} {b : List Byte} {m : Msg} (h : readOffer n b = some m) : m.code = 0x21 := by
  unfold readOffer at h
  split at h
  · obtain ⟨-, rfl⟩ := eq_of_guarded h; rfl
  · cases h

theorem readTake_code {n : Nat} {b : List Byte} {m : Msg} (h : readTake n b = some m) : m.code = 0x22 := by
  unfold readTake at h
  split at h
  · obtain ⟨-, rfl⟩ := eq_of_guarded h; rfl
  · cases h

theorem readDone_code {b : List Byte} {m : Msg} (h : readDone b = some m) : m.code = 0x23 := by
  unfold readDone at h
  split at h
  · split at h
    · obtain ⟨-, rfl⟩ := eq_of_guarded h; rfl
    · cases h
  · cases h

theorem readSpan_code {n : Nat} {b : List Byte} {m : Msg} (h : readSpan n b = some m) : m.code = 0x31 := by
  unfold readSpan at h
  split at h
  · split at h
    · obtain ⟨-, rfl⟩ := eq_of_guarded h; rfl
    · cases h
  · cases h

theorem readNudge_code {n : Nat} {b : List Byte} {m : Msg} (h : readNudge n b = some m) : m.code = 0x32 := by
  unfold readNudge at h
  split at h
  · split at h
    · obtain ⟨-, rfl⟩ := eq_of_guarded h; rfl
    · cases h
  · cases h

theorem readPrompt_code {b : List Byte} {m : Msg} (h : readPrompt b = some m) : m.code = 0x41 := by
  unfold readPrompt at h
  split at h
  · split at h
    · obtain ⟨-, rfl⟩ := eq_of_guarded h; rfl
    · cases h
  · cases h

theorem readReply_code {b : List Byte} {m : Msg} (h : readReply b = some m) : m.code = 0x43 := by
  unfold readReply at h
  split at h
  · split at h
    · obtain ⟨-, rfl⟩ := eq_of_guarded h; rfl
    · cases h
  · cases h

theorem readTallyAsk_code {b : List Byte} {m : Msg} (h : readTallyAsk b = some m) : m.code = 0x51 := by
  unfold readTallyAsk at h
  split at h
  · split at h
    · obtain ⟨-, rfl⟩ := eq_of_guarded h; rfl
    · cases h
  · cases h

theorem readTally_code {b : List Byte} {m : Msg} (h : readTally b = some m) : m.code = 0x52 := by
  unfold readTally at h
  split at h
  · split at h
    · obtain ⟨-, rfl⟩ := eq_of_guarded h; rfl
    · cases h
  · cases h

theorem readClear_code {b : List Byte} {m : Msg} (h : readClear b = some m) : m.code = 0x42 := by
  unfold readClear at h
  split at h
  · split at h
    · cases h; rfl
    · cases h
  · cases h

/-- A frame read as a message has the KIND of that message (R29). -/
theorem readBody_code {n : Nat} {f : Frame} {m : Msg} (h : readBody n f = some m) : f.kind = m.code := by
  unfold readBody at h
  by_cases hk : f.kind = 0x11
  · rw [if_pos hk] at h; rw [hk, readMountCall_code h]
  rw [if_neg hk] at h; clear hk
  by_cases hk : f.kind = 0x12
  · rw [if_pos hk] at h; rw [hk, readDemountCall_code h]
  rw [if_neg hk] at h; clear hk
  by_cases hk : f.kind = 0x21
  · rw [if_pos hk] at h; rw [hk, readOffer_code h]
  rw [if_neg hk] at h; clear hk
  by_cases hk : f.kind = 0x22
  · rw [if_pos hk] at h; rw [hk, readTake_code h]
  rw [if_neg hk] at h; clear hk
  by_cases hk : f.kind = 0x23
  · rw [if_pos hk] at h; rw [hk, readDone_code h]
  rw [if_neg hk] at h; clear hk
  by_cases hk : f.kind = 0x31
  · rw [if_pos hk] at h; rw [hk, readSpan_code h]
  rw [if_neg hk] at h; clear hk
  by_cases hk : f.kind = 0x32
  · rw [if_pos hk] at h; rw [hk, readNudge_code h]
  rw [if_neg hk] at h; clear hk
  by_cases hk : f.kind = 0x41
  · rw [if_pos hk] at h; rw [hk, readPrompt_code h]
  rw [if_neg hk] at h; clear hk
  by_cases hk : f.kind = 0x42
  · rw [if_pos hk] at h; rw [hk, readClear_code h]
  rw [if_neg hk] at h; clear hk
  by_cases hk : f.kind = 0x43
  · rw [if_pos hk] at h; rw [hk, readReply_code h]
  rw [if_neg hk] at h; clear hk
  by_cases hk : f.kind = 0x51
  · rw [if_pos hk] at h; rw [hk, readTallyAsk_code h]
  rw [if_neg hk] at h; clear hk
  by_cases hk : f.kind = 0x52
  · rw [if_pos hk] at h; rw [hk, readTally_code h]
  rw [if_neg hk] at h; clear hk
  by_cases hk : f.kind = 0x53
  · rw [if_pos hk] at h; obtain ⟨p, -, rfl⟩ := Option.map_eq_some_iff.1 h; rw [hk]; rfl
  rw [if_neg hk] at h; clear hk
  by_cases hk : f.kind = 0x54
  · rw [if_pos hk] at h; obtain ⟨p, -, rfl⟩ := Option.map_eq_some_iff.1 h; rw [hk]; rfl
  rw [if_neg hk] at h; clear hk
  by_cases hk : f.kind = 0x61
  · rw [if_pos hk] at h; obtain ⟨-, rfl⟩ := eq_of_guarded h; rw [hk]; rfl
  rw [if_neg hk] at h; clear hk
  by_cases hk : f.kind = 0x62
  · rw [if_pos hk] at h; obtain ⟨-, rfl⟩ := eq_of_guarded h; rw [hk]; rfl
  rw [if_neg hk] at h; clear hk
  by_cases hk : f.kind = 0x63
  · rw [if_pos hk] at h; obtain ⟨-, rfl⟩ := eq_of_guarded h; rw [hk]; rfl
  rw [if_neg hk] at h; clear hk
  cases h

theorem accept_code {n : Nat} {f : Frame} {m : Msg} (h : accept n f = some m) : f.kind = m.code := by
  unfold accept at h; split at h
  · exact readBody_code h
  · cases h

/-- An accepted frame at the head is taken by its blocks, the event ends, and the frame leaves the queue (R11). -/
theorem Station.hear_of_hands {s : Station} {h : Heard} {m : Msg} {rest : List RxEntry} (hs : s.Hands h m rest)
    {code : Byte} (hc : m.code = code) (every : Bool) (act : Heard → Msg → Station → Station)
    (he : every = true ∨ s.hearing = true) : s.hear code every act = (act h m s).finish.dequeue := by
  obtain ⟨hr, f, hq, ha, hsrc, hdst⟩ := hs
  unfold Station.hear
  rw [hq]
  simp only [hr, accept_code ha, hc, and_self, if_true]
  unfold Station.takeFrame
  simp only [ha, hsrc, hdst]
  have : (every || s.hearing) = true := by rcases he with rfl | h <;> simp_all
  simp [this]

/-- With no frame of its kind at the head, the event of hearing does not occur (log 3). -/
theorem Station.hear_of_empty (s : Station) (code : Byte) (every : Bool) (act : Heard → Msg → Station → Station)
    (h : s.liu.rxq = []) : s.hear code every act = s := by
  unfold Station.hear; rw [h]

theorem State.act_eq (s : State) (f : Station → Station) : s.act f = .next { s with station := f s.station } := rfl

end Sys2Proof.Machine
end

