-- ==== Sys2Proof/Laws/State.lean ====
section
/-! SUPPORT. One lemma for each field that a named update of the station leaves as it was, so that no later proof unfolds a
record update. -/

namespace Sys2Proof.Machine

@[simp] theorem Station.updateEntry_pins (s : Station) (t : Tag) (f : Entry → Entry) : (s.updateEntry t f).pins = s.pins := rfl
@[simp] theorem Station.updateEntry_ctl (s : Station) (t : Tag) (f : Entry → Entry) : (s.updateEntry t f).ctl = s.ctl := rfl
@[simp] theorem Station.updateEntry_liu (s : Station) (t : Tag) (f : Entry → Entry) : (s.updateEntry t f).liu = s.liu := rfl
@[simp] theorem Station.updateEntry_span (s : Station) (t : Tag) (f : Entry → Entry) : (s.updateEntry t f).span = s.span := rfl
@[simp] theorem Station.updateEntry_seq (s : Station) (t : Tag) (f : Entry → Entry) : (s.updateEntry t f).seq = s.seq := rfl
@[simp] theorem Station.updateEntry_prm (s : Station) (t : Tag) (f : Entry → Entry) : (s.updateEntry t f).prm = s.prm := rfl
@[simp] theorem Station.updateEntry_acc (s : Station) (t : Tag) (f : Entry → Entry) : (s.updateEntry t f).acc = s.acc := rfl
@[simp] theorem Station.updateEntry_store (s : Station) (t : Tag) (f : Entry → Entry) : (s.updateEntry t f).store = s.store := rfl
@[simp] theorem Station.updateEntry_free (s : Station) (t : Tag) (f : Entry → Entry) : (s.updateEntry t f).free = s.free := rfl

@[simp] theorem Station.rescanPoint_pins (s : Station) : s.rescanPoint.pins = s.pins := rfl
@[simp] theorem Station.rescanPoint_ctl (s : Station) : s.rescanPoint.ctl = s.ctl := rfl
@[simp] theorem Station.rescanPoint_liu (s : Station) : s.rescanPoint.liu = s.liu := rfl
@[simp] theorem Station.rescanPoint_span (s : Station) : s.rescanPoint.span = s.span := rfl
@[simp] theorem Station.rescanPoint_seq (s : Station) : s.rescanPoint.seq = s.seq := rfl
@[simp] theorem Station.rescanPoint_prm (s : Station) : s.rescanPoint.prm = s.prm := rfl
@[simp] theorem Station.rescanPoint_acc (s : Station) : s.rescanPoint.acc = s.acc := rfl
@[simp] theorem Station.rescanPoint_store (s : Station) : s.rescanPoint.store = s.store := rfl
@[simp] theorem Station.rescanPoint_free (s : Station) : s.rescanPoint.free = s.free := rfl

@[simp] theorem Station.forgetWaiting_pins (s : Station) (n : Nat) : (s.forgetWaiting n).pins = s.pins := rfl
@[simp] theorem Station.forgetWaiting_ctl (s : Station) (n : Nat) : (s.forgetWaiting n).ctl = s.ctl := rfl
@[simp] theorem Station.forgetWaiting_liu (s : Station) (n : Nat) : (s.forgetWaiting n).liu = s.liu := rfl
@[simp] theorem Station.forgetWaiting_span (s : Station) (n : Nat) : (s.forgetWaiting n).span = s.span := rfl
@[simp] theorem Station.forgetWaiting_seq (s : Station) (n : Nat) : (s.forgetWaiting n).seq = s.seq := rfl
@[simp] theorem Station.forgetWaiting_prm (s : Station) (n : Nat) : (s.forgetWaiting n).prm = s.prm := rfl
@[simp] theorem Station.forgetWaiting_acc (s : Station) (n : Nat) : (s.forgetWaiting n).acc = s.acc := rfl
@[simp] theorem Station.forgetWaiting_store (s : Station) (n : Nat) : (s.forgetWaiting n).store = s.store := rfl
@[simp] theorem Station.forgetWaiting_free (s : Station) (n : Nat) : (s.forgetWaiting n).free = s.free := rfl

@[simp] theorem Station.offerEcho_pins (s : Station) (t : Tag) : (s.offerEcho t).pins = s.pins := rfl
@[simp] theorem Station.offerEcho_ctl (s : Station) (t : Tag) : (s.offerEcho t).ctl = s.ctl := rfl
@[simp] theorem Station.offerEcho_liu (s : Station) (t : Tag) : (s.offerEcho t).liu = s.liu := rfl
@[simp] theorem Station.offerEcho_span (s : Station) (t : Tag) : (s.offerEcho t).span = s.span := rfl
@[simp] theorem Station.offerEcho_seq (s : Station) (t : Tag) : (s.offerEcho t).seq = s.seq := rfl
@[simp] theorem Station.offerEcho_prm (s : Station) (t : Tag) : (s.offerEcho t).prm = s.prm := rfl
@[simp] theorem Station.offerEcho_acc (s : Station) (t : Tag) : (s.offerEcho t).acc = s.acc := rfl
@[simp] theorem Station.offerEcho_store (s : Station) (t : Tag) : (s.offerEcho t).store = s.store := rfl
@[simp] theorem Station.offerEcho_free (s : Station) (t : Tag) : (s.offerEcho t).free = s.free := rfl

@[simp] theorem Station.takeEcho_pins (s : Station) (t : Tag) : (s.takeEcho t).pins = s.pins := rfl
@[simp] theorem Station.takeEcho_ctl (s : Station) (t : Tag) : (s.takeEcho t).ctl = s.ctl := rfl
@[simp] theorem Station.takeEcho_liu (s : Station) (t : Tag) : (s.takeEcho t).liu = s.liu := rfl
@[simp] theorem Station.takeEcho_span (s : Station) (t : Tag) : (s.takeEcho t).span = s.span := rfl
@[simp] theorem Station.takeEcho_seq (s : Station) (t : Tag) : (s.takeEcho t).seq = s.seq := rfl
@[simp] theorem Station.takeEcho_prm (s : Station) (t : Tag) : (s.takeEcho t).prm = s.prm := rfl
@[simp] theorem Station.takeEcho_acc (s : Station) (t : Tag) : (s.takeEcho t).acc = s.acc := rfl
@[simp] theorem Station.takeEcho_store (s : Station) (t : Tag) : (s.takeEcho t).store = s.store := rfl
@[simp] theorem Station.takeEcho_free (s : Station) (t : Tag) : (s.takeEcho t).free = s.free := rfl

@[simp] theorem Station.noticeWaiting_pins (s : Station) (t : Tag) : (s.noticeWaiting t).pins = s.pins := rfl
@[simp] theorem Station.noticeWaiting_ctl (s : Station) (t : Tag) : (s.noticeWaiting t).ctl = s.ctl := rfl
@[simp] theorem Station.noticeWaiting_liu (s : Station) (t : Tag) : (s.noticeWaiting t).liu = s.liu := rfl
@[simp] theorem Station.noticeWaiting_span (s : Station) (t : Tag) : (s.noticeWaiting t).span = s.span := rfl
@[simp] theorem Station.noticeWaiting_seq (s : Station) (t : Tag) : (s.noticeWaiting t).seq = s.seq := rfl
@[simp] theorem Station.noticeWaiting_prm (s : Station) (t : Tag) : (s.noticeWaiting t).prm = s.prm := rfl
@[simp] theorem Station.noticeWaiting_acc (s : Station) (t : Tag) : (s.noticeWaiting t).acc = s.acc := rfl
@[simp] theorem Station.noticeWaiting_store (s : Station) (t : Tag) : (s.noticeWaiting t).store = s.store := rfl
@[simp] theorem Station.noticeWaiting_free (s : Station) (t : Tag) : (s.noticeWaiting t).free = s.free := rfl

@[simp] theorem Station.offerDropped_pins (s : Station) (t : Tag) (c : Nat) : (s.offerDropped t c).pins = s.pins := rfl
@[simp] theorem Station.offerDropped_ctl (s : Station) (t : Tag) (c : Nat) : (s.offerDropped t c).ctl = s.ctl := rfl
@[simp] theorem Station.offerDropped_liu (s : Station) (t : Tag) (c : Nat) : (s.offerDropped t c).liu = s.liu := rfl
@[simp] theorem Station.offerDropped_span (s : Station) (t : Tag) (c : Nat) : (s.offerDropped t c).span = s.span := rfl
@[simp] theorem Station.offerDropped_seq (s : Station) (t : Tag) (c : Nat) : (s.offerDropped t c).seq = s.seq := rfl
@[simp] theorem Station.offerDropped_prm (s : Station) (t : Tag) (c : Nat) : (s.offerDropped t c).prm = s.prm := rfl
@[simp] theorem Station.offerDropped_acc (s : Station) (t : Tag) (c : Nat) : (s.offerDropped t c).acc = s.acc := rfl
@[simp] theorem Station.offerDropped_store (s : Station) (t : Tag) (c : Nat) : (s.offerDropped t c).store = s.store := rfl
@[simp] theorem Station.offerDropped_free (s : Station) (t : Tag) (c : Nat) : (s.offerDropped t c).free = s.free := rfl

@[simp] theorem Station.doneDropped_pins (s : Station) (d : Done) : (s.doneDropped d).pins = s.pins := rfl
@[simp] theorem Station.doneDropped_ctl (s : Station) (d : Done) : (s.doneDropped d).ctl = s.ctl := rfl
@[simp] theorem Station.doneDropped_liu (s : Station) (d : Done) : (s.doneDropped d).liu = s.liu := rfl
@[simp] theorem Station.doneDropped_req (s : Station) (d : Done) : (s.doneDropped d).req = s.req := rfl
@[simp] theorem Station.doneDropped_span (s : Station) (d : Done) : (s.doneDropped d).span = s.span := rfl
@[simp] theorem Station.doneDropped_prm (s : Station) (d : Done) : (s.doneDropped d).prm = s.prm := rfl
@[simp] theorem Station.doneDropped_acc (s : Station) (d : Done) : (s.doneDropped d).acc = s.acc := rfl
@[simp] theorem Station.doneDropped_store (s : Station) (d : Done) : (s.doneDropped d).store = s.store := rfl
@[simp] theorem Station.doneDropped_free (s : Station) (d : Done) : (s.doneDropped d).free = s.free := rfl

@[simp] theorem Station.nudgeDropped_pins (s : Station) (a : Nat) : (s.nudgeDropped a).pins = s.pins := rfl
@[simp] theorem Station.nudgeDropped_ctl (s : Station) (a : Nat) : (s.nudgeDropped a).ctl = s.ctl := rfl
@[simp] theorem Station.nudgeDropped_liu (s : Station) (a : Nat) : (s.nudgeDropped a).liu = s.liu := rfl
@[simp] theorem Station.nudgeDropped_req (s : Station) (a : Nat) : (s.nudgeDropped a).req = s.req := rfl
@[simp] theorem Station.nudgeDropped_seq (s : Station) (a : Nat) : (s.nudgeDropped a).seq = s.seq := rfl
@[simp] theorem Station.nudgeDropped_prm (s : Station) (a : Nat) : (s.nudgeDropped a).prm = s.prm := rfl
@[simp] theorem Station.nudgeDropped_acc (s : Station) (a : Nat) : (s.nudgeDropped a).acc = s.acc := rfl
@[simp] theorem Station.nudgeDropped_store (s : Station) (a : Nat) : (s.nudgeDropped a).store = s.store := rfl
@[simp] theorem Station.nudgeDropped_free (s : Station) (a : Nat) : (s.nudgeDropped a).free = s.free := rfl

@[simp] theorem Station.promptDropped_pins (s : Station) (n : Nat) (l : Option Level) : (s.promptDropped n l).pins = s.pins := rfl
@[simp] theorem Station.promptDropped_ctl (s : Station) (n : Nat) (l : Option Level) : (s.promptDropped n l).ctl = s.ctl := rfl
@[simp] theorem Station.promptDropped_liu (s : Station) (n : Nat) (l : Option Level) : (s.promptDropped n l).liu = s.liu := rfl
@[simp] theorem Station.promptDropped_req (s : Station) (n : Nat) (l : Option Level) : (s.promptDropped n l).req = s.req := rfl
@[simp] theorem Station.promptDropped_span (s : Station) (n : Nat) (l : Option Level) : (s.promptDropped n l).span = s.span := rfl
@[simp] theorem Station.promptDropped_seq (s : Station) (n : Nat) (l : Option Level) : (s.promptDropped n l).seq = s.seq := rfl
@[simp] theorem Station.promptDropped_acc (s : Station) (n : Nat) (l : Option Level) : (s.promptDropped n l).acc = s.acc := rfl
@[simp] theorem Station.promptDropped_store (s : Station) (n : Nat) (l : Option Level) : (s.promptDropped n l).store = s.store := rfl
@[simp] theorem Station.promptDropped_free (s : Station) (n : Nat) (l : Option Level) : (s.promptDropped n l).free = s.free := rfl

@[simp] theorem Station.clearDropped_pins (s : Station) (n : Nat) (r : Option ClearReason) (l : Nat) : (s.clearDropped n r l).pins = s.pins := rfl
@[simp] theorem Station.clearDropped_ctl (s : Station) (n : Nat) (r : Option ClearReason) (l : Nat) : (s.clearDropped n r l).ctl = s.ctl := rfl
@[simp] theorem Station.clearDropped_liu (s : Station) (n : Nat) (r : Option ClearReason) (l : Nat) : (s.clearDropped n r l).liu = s.liu := rfl
@[simp] theorem Station.clearDropped_req (s : Station) (n : Nat) (r : Option ClearReason) (l : Nat) : (s.clearDropped n r l).req = s.req := rfl
@[simp] theorem Station.clearDropped_span (s : Station) (n : Nat) (r : Option ClearReason) (l : Nat) : (s.clearDropped n r l).span = s.span := rfl
@[simp] theorem Station.clearDropped_seq (s : Station) (n : Nat) (r : Option ClearReason) (l : Nat) : (s.clearDropped n r l).seq = s.seq := rfl
@[simp] theorem Station.clearDropped_acc (s : Station) (n : Nat) (r : Option ClearReason) (l : Nat) : (s.clearDropped n r l).acc = s.acc := rfl
@[simp] theorem Station.clearDropped_store (s : Station) (n : Nat) (r : Option ClearReason) (l : Nat) : (s.clearDropped n r l).store = s.store := rfl
@[simp] theorem Station.clearDropped_free (s : Station) (n : Nat) (r : Option ClearReason) (l : Nat) : (s.clearDropped n r l).free = s.free := rfl

@[simp] theorem Station.countLateReply_pins (s : Station) : s.countLateReply.pins = s.pins := rfl
@[simp] theorem Station.countLateReply_ctl (s : Station) : s.countLateReply.ctl = s.ctl := rfl
@[simp] theorem Station.countLateReply_req (s : Station) : s.countLateReply.req = s.req := rfl
@[simp] theorem Station.countLateReply_span (s : Station) : s.countLateReply.span = s.span := rfl
@[simp] theorem Station.countLateReply_seq (s : Station) : s.countLateReply.seq = s.seq := rfl
@[simp] theorem Station.countLateReply_prm (s : Station) : s.countLateReply.prm = s.prm := rfl
@[simp] theorem Station.countLateReply_acc (s : Station) : s.countLateReply.acc = s.acc := rfl
@[simp] theorem Station.countLateReply_store (s : Station) : s.countLateReply.store = s.store := rfl
@[simp] theorem Station.countLateReply_free (s : Station) : s.countLateReply.free = s.free := rfl

@[simp] theorem Station.countCallDropped_pins (s : Station) : s.countCallDropped.pins = s.pins := rfl
@[simp] theorem Station.countCallDropped_ctl (s : Station) : s.countCallDropped.ctl = s.ctl := rfl
@[simp] theorem Station.countCallDropped_req (s : Station) : s.countCallDropped.req = s.req := rfl
@[simp] theorem Station.countCallDropped_span (s : Station) : s.countCallDropped.span = s.span := rfl
@[simp] theorem Station.countCallDropped_seq (s : Station) : s.countCallDropped.seq = s.seq := rfl
@[simp] theorem Station.countCallDropped_prm (s : Station) : s.countCallDropped.prm = s.prm := rfl
@[simp] theorem Station.countCallDropped_acc (s : Station) : s.countCallDropped.acc = s.acc := rfl
@[simp] theorem Station.countCallDropped_store (s : Station) : s.countCallDropped.store = s.store := rfl
@[simp] theorem Station.countCallDropped_free (s : Station) : s.countCallDropped.free = s.free := rfl

@[simp] theorem Station.updatePrompt_pins (s : Station) (n : Nat) (f : PromptEntry → PromptEntry) : (s.updatePrompt n f).pins = s.pins := rfl
@[simp] theorem Station.updatePrompt_ctl (s : Station) (n : Nat) (f : PromptEntry → PromptEntry) : (s.updatePrompt n f).ctl = s.ctl := rfl
@[simp] theorem Station.updatePrompt_liu (s : Station) (n : Nat) (f : PromptEntry → PromptEntry) : (s.updatePrompt n f).liu = s.liu := rfl
@[simp] theorem Station.updatePrompt_req (s : Station) (n : Nat) (f : PromptEntry → PromptEntry) : (s.updatePrompt n f).req = s.req := rfl
@[simp] theorem Station.updatePrompt_span (s : Station) (n : Nat) (f : PromptEntry → PromptEntry) : (s.updatePrompt n f).span = s.span := rfl
@[simp] theorem Station.updatePrompt_seq (s : Station) (n : Nat) (f : PromptEntry → PromptEntry) : (s.updatePrompt n f).seq = s.seq := rfl
@[simp] theorem Station.updatePrompt_acc (s : Station) (n : Nat) (f : PromptEntry → PromptEntry) : (s.updatePrompt n f).acc = s.acc := rfl
@[simp] theorem Station.updatePrompt_store (s : Station) (n : Nat) (f : PromptEntry → PromptEntry) : (s.updatePrompt n f).store = s.store := rfl
@[simp] theorem Station.updatePrompt_free (s : Station) (n : Nat) (f : PromptEntry → PromptEntry) : (s.updatePrompt n f).free = s.free := rfl

@[simp] theorem Station.driveBeacon_pins (s : Station) : s.driveBeacon.pins = s.pins := rfl
@[simp] theorem Station.driveBeacon_ctl (s : Station) : s.driveBeacon.ctl = s.ctl := rfl
@[simp] theorem Station.driveBeacon_liu (s : Station) : s.driveBeacon.liu = s.liu := rfl
@[simp] theorem Station.driveBeacon_req (s : Station) : s.driveBeacon.req = s.req := rfl
@[simp] theorem Station.driveBeacon_span (s : Station) : s.driveBeacon.span = s.span := rfl
@[simp] theorem Station.driveBeacon_seq (s : Station) : s.driveBeacon.seq = s.seq := rfl
@[simp] theorem Station.driveBeacon_acc (s : Station) : s.driveBeacon.acc = s.acc := rfl
@[simp] theorem Station.driveBeacon_store (s : Station) : s.driveBeacon.store = s.store := rfl
@[simp] theorem Station.driveBeacon_free (s : Station) : s.driveBeacon.free = s.free := rfl

@[simp] theorem Station.advanceDrops_pins (s : Station) : s.advanceDrops.pins = s.pins := rfl
@[simp] theorem Station.advanceDrops_ctl (s : Station) : s.advanceDrops.ctl = s.ctl := rfl
@[simp] theorem Station.advanceDrops_liu (s : Station) : s.advanceDrops.liu = s.liu := rfl
@[simp] theorem Station.advanceDrops_req (s : Station) : s.advanceDrops.req = s.req := rfl
@[simp] theorem Station.advanceDrops_span (s : Station) : s.advanceDrops.span = s.span := rfl
@[simp] theorem Station.advanceDrops_seq (s : Station) : s.advanceDrops.seq = s.seq := rfl
@[simp] theorem Station.advanceDrops_acc (s : Station) : s.advanceDrops.acc = s.acc := rfl
@[simp] theorem Station.advanceDrops_store (s : Station) : s.advanceDrops.store = s.store := rfl
@[simp] theorem Station.advanceDrops_free (s : Station) : s.advanceDrops.free = s.free := rfl

@[simp] theorem Station.promptEcho_pins (s : Station) (n : Nat) (l : Level) : (s.promptEcho n l).pins = s.pins := rfl
@[simp] theorem Station.promptEcho_ctl (s : Station) (n : Nat) (l : Level) : (s.promptEcho n l).ctl = s.ctl := rfl
@[simp] theorem Station.promptEcho_liu (s : Station) (n : Nat) (l : Level) : (s.promptEcho n l).liu = s.liu := rfl
@[simp] theorem Station.promptEcho_req (s : Station) (n : Nat) (l : Level) : (s.promptEcho n l).req = s.req := rfl
@[simp] theorem Station.promptEcho_span (s : Station) (n : Nat) (l : Level) : (s.promptEcho n l).span = s.span := rfl
@[simp] theorem Station.promptEcho_seq (s : Station) (n : Nat) (l : Level) : (s.promptEcho n l).seq = s.seq := rfl
@[simp] theorem Station.promptEcho_acc (s : Station) (n : Nat) (l : Level) : (s.promptEcho n l).acc = s.acc := rfl
@[simp] theorem Station.promptEcho_store (s : Station) (n : Nat) (l : Level) : (s.promptEcho n l).store = s.store := rfl
@[simp] theorem Station.promptEcho_free (s : Station) (n : Nat) (l : Level) : (s.promptEcho n l).free = s.free := rfl

@[simp] theorem Station.clearEcho_pins (s : Station) (n : Nat) (r : ClearReason) : (s.clearEcho n r).pins = s.pins := rfl
@[simp] theorem Station.clearEcho_ctl (s : Station) (n : Nat) (r : ClearReason) : (s.clearEcho n r).ctl = s.ctl := rfl
@[simp] theorem Station.clearEcho_liu (s : Station) (n : Nat) (r : ClearReason) : (s.clearEcho n r).liu = s.liu := rfl
@[simp] theorem Station.clearEcho_req (s : Station) (n : Nat) (r : ClearReason) : (s.clearEcho n r).req = s.req := rfl
@[simp] theorem Station.clearEcho_span (s : Station) (n : Nat) (r : ClearReason) : (s.clearEcho n r).span = s.span := rfl
@[simp] theorem Station.clearEcho_seq (s : Station) (n : Nat) (r : ClearReason) : (s.clearEcho n r).seq = s.seq := rfl
@[simp] theorem Station.clearEcho_acc (s : Station) (n : Nat) (r : ClearReason) : (s.clearEcho n r).acc = s.acc := rfl
@[simp] theorem Station.clearEcho_store (s : Station) (n : Nat) (r : ClearReason) : (s.clearEcho n r).store = s.store := rfl
@[simp] theorem Station.clearEcho_free (s : Station) (n : Nat) (r : ClearReason) : (s.clearEcho n r).free = s.free := rfl

@[simp] theorem Station.updateAcc_pins (s : Station) (n : Nat) (f : AccRecord → AccRecord) : (s.updateAcc n f).pins = s.pins := rfl
@[simp] theorem Station.updateAcc_ctl (s : Station) (n : Nat) (f : AccRecord → AccRecord) : (s.updateAcc n f).ctl = s.ctl := rfl
@[simp] theorem Station.updateAcc_liu (s : Station) (n : Nat) (f : AccRecord → AccRecord) : (s.updateAcc n f).liu = s.liu := rfl
@[simp] theorem Station.updateAcc_req (s : Station) (n : Nat) (f : AccRecord → AccRecord) : (s.updateAcc n f).req = s.req := rfl
@[simp] theorem Station.updateAcc_span (s : Station) (n : Nat) (f : AccRecord → AccRecord) : (s.updateAcc n f).span = s.span := rfl
@[simp] theorem Station.updateAcc_seq (s : Station) (n : Nat) (f : AccRecord → AccRecord) : (s.updateAcc n f).seq = s.seq := rfl
@[simp] theorem Station.updateAcc_prm (s : Station) (n : Nat) (f : AccRecord → AccRecord) : (s.updateAcc n f).prm = s.prm := rfl
@[simp] theorem Station.updateAcc_store (s : Station) (n : Nat) (f : AccRecord → AccRecord) : (s.updateAcc n f).store = s.store := rfl
@[simp] theorem Station.updateAcc_free (s : Station) (n : Nat) (f : AccRecord → AccRecord) : (s.updateAcc n f).free = s.free := rfl

@[simp] theorem Station.setAcc_pins (s : Station) (x : Subject) (f : AccRecord → AccRecord) : (s.setAcc x f).pins = s.pins := rfl
@[simp] theorem Station.setAcc_ctl (s : Station) (x : Subject) (f : AccRecord → AccRecord) : (s.setAcc x f).ctl = s.ctl := rfl
@[simp] theorem Station.setAcc_liu (s : Station) (x : Subject) (f : AccRecord → AccRecord) : (s.setAcc x f).liu = s.liu := rfl
@[simp] theorem Station.setAcc_req (s : Station) (x : Subject) (f : AccRecord → AccRecord) : (s.setAcc x f).req = s.req := rfl
@[simp] theorem Station.setAcc_span (s : Station) (x : Subject) (f : AccRecord → AccRecord) : (s.setAcc x f).span = s.span := rfl
@[simp] theorem Station.setAcc_seq (s : Station) (x : Subject) (f : AccRecord → AccRecord) : (s.setAcc x f).seq = s.seq := rfl
@[simp] theorem Station.setAcc_prm (s : Station) (x : Subject) (f : AccRecord → AccRecord) : (s.setAcc x f).prm = s.prm := rfl
@[simp] theorem Station.setAcc_store (s : Station) (x : Subject) (f : AccRecord → AccRecord) : (s.setAcc x f).store = s.store := rfl
@[simp] theorem Station.setAcc_free (s : Station) (x : Subject) (f : AccRecord → AccRecord) : (s.setAcc x f).free = s.free := rfl

@[simp] theorem Station.parkReservation_pins (s : Station) : s.parkReservation.pins = s.pins := rfl
@[simp] theorem Station.parkReservation_ctl (s : Station) : s.parkReservation.ctl = s.ctl := rfl
@[simp] theorem Station.parkReservation_liu (s : Station) : s.parkReservation.liu = s.liu := rfl
@[simp] theorem Station.parkReservation_req (s : Station) : s.parkReservation.req = s.req := rfl
@[simp] theorem Station.parkReservation_seq (s : Station) : s.parkReservation.seq = s.seq := rfl
@[simp] theorem Station.parkReservation_prm (s : Station) : s.parkReservation.prm = s.prm := rfl
@[simp] theorem Station.parkReservation_acc (s : Station) : s.parkReservation.acc = s.acc := rfl
@[simp] theorem Station.parkReservation_store (s : Station) : s.parkReservation.store = s.store := rfl
@[simp] theorem Station.parkReservation_free (s : Station) : s.parkReservation.free = s.free := rfl

@[simp] theorem Station.enterPeer_pins (s : Station) (p : PeerSpan) : (s.enterPeer p).pins = s.pins := rfl
@[simp] theorem Station.enterPeer_ctl (s : Station) (p : PeerSpan) : (s.enterPeer p).ctl = s.ctl := rfl
@[simp] theorem Station.enterPeer_liu (s : Station) (p : PeerSpan) : (s.enterPeer p).liu = s.liu := rfl
@[simp] theorem Station.enterPeer_req (s : Station) (p : PeerSpan) : (s.enterPeer p).req = s.req := rfl
@[simp] theorem Station.enterPeer_seq (s : Station) (p : PeerSpan) : (s.enterPeer p).seq = s.seq := rfl
@[simp] theorem Station.enterPeer_prm (s : Station) (p : PeerSpan) : (s.enterPeer p).prm = s.prm := rfl
@[simp] theorem Station.enterPeer_acc (s : Station) (p : PeerSpan) : (s.enterPeer p).acc = s.acc := rfl
@[simp] theorem Station.enterPeer_store (s : Station) (p : PeerSpan) : (s.enterPeer p).store = s.store := rfl
@[simp] theorem Station.enterPeer_free (s : Station) (p : PeerSpan) : (s.enterPeer p).free = s.free := rfl

@[simp] theorem Station.markStale_pins (s : Station) : s.markStale.pins = s.pins := rfl
@[simp] theorem Station.markStale_ctl (s : Station) : s.markStale.ctl = s.ctl := rfl
@[simp] theorem Station.markStale_liu (s : Station) : s.markStale.liu = s.liu := rfl
@[simp] theorem Station.markStale_req (s : Station) : s.markStale.req = s.req := rfl
@[simp] theorem Station.markStale_seq (s : Station) : s.markStale.seq = s.seq := rfl
@[simp] theorem Station.markStale_prm (s : Station) : s.markStale.prm = s.prm := rfl
@[simp] theorem Station.markStale_acc (s : Station) : s.markStale.acc = s.acc := rfl
@[simp] theorem Station.markStale_store (s : Station) : s.markStale.store = s.store := rfl
@[simp] theorem Station.markStale_free (s : Station) : s.markStale.free = s.free := rfl

@[simp] theorem Station.issue_pins (s : Station) (c : Command) (p : Purpose) : (s.issue c p).pins = s.pins := rfl
@[simp] theorem Station.issue_ctl (s : Station) (c : Command) (p : Purpose) : (s.issue c p).ctl = s.ctl := rfl
@[simp] theorem Station.issue_liu (s : Station) (c : Command) (p : Purpose) : (s.issue c p).liu = s.liu := rfl
@[simp] theorem Station.issue_req (s : Station) (c : Command) (p : Purpose) : (s.issue c p).req = s.req := rfl
@[simp] theorem Station.issue_span (s : Station) (c : Command) (p : Purpose) : (s.issue c p).span = s.span := rfl
@[simp] theorem Station.issue_prm (s : Station) (c : Command) (p : Purpose) : (s.issue c p).prm = s.prm := rfl
@[simp] theorem Station.issue_acc (s : Station) (c : Command) (p : Purpose) : (s.issue c p).acc = s.acc := rfl
@[simp] theorem Station.issue_store (s : Station) (c : Command) (p : Purpose) : (s.issue c p).store = s.store := rfl
@[simp] theorem Station.issue_free (s : Station) (c : Command) (p : Purpose) : (s.issue c p).free = s.free := rfl

@[simp] theorem Station.issueCheck_pins (s : Station) : s.issueCheck.pins = s.pins := rfl
@[simp] theorem Station.issueCheck_ctl (s : Station) : s.issueCheck.ctl = s.ctl := rfl
@[simp] theorem Station.issueCheck_liu (s : Station) : s.issueCheck.liu = s.liu := rfl
@[simp] theorem Station.issueCheck_req (s : Station) : s.issueCheck.req = s.req := rfl
@[simp] theorem Station.issueCheck_span (s : Station) : s.issueCheck.span = s.span := rfl
@[simp] theorem Station.issueCheck_prm (s : Station) : s.issueCheck.prm = s.prm := rfl
@[simp] theorem Station.issueCheck_acc (s : Station) : s.issueCheck.acc = s.acc := rfl
@[simp] theorem Station.issueCheck_store (s : Station) : s.issueCheck.store = s.store := rfl
@[simp] theorem Station.issueCheck_free (s : Station) : s.issueCheck.free = s.free := rfl

@[simp] theorem Station.updateRecord_pins (s : Station) (f : ReqRecord → ReqRecord) : (s.updateRecord f).pins = s.pins := rfl
@[simp] theorem Station.updateRecord_ctl (s : Station) (f : ReqRecord → ReqRecord) : (s.updateRecord f).ctl = s.ctl := rfl
@[simp] theorem Station.updateRecord_liu (s : Station) (f : ReqRecord → ReqRecord) : (s.updateRecord f).liu = s.liu := rfl
@[simp] theorem Station.updateRecord_req (s : Station) (f : ReqRecord → ReqRecord) : (s.updateRecord f).req = s.req := rfl
@[simp] theorem Station.updateRecord_span (s : Station) (f : ReqRecord → ReqRecord) : (s.updateRecord f).span = s.span := rfl
@[simp] theorem Station.updateRecord_prm (s : Station) (f : ReqRecord → ReqRecord) : (s.updateRecord f).prm = s.prm := rfl
@[simp] theorem Station.updateRecord_acc (s : Station) (f : ReqRecord → ReqRecord) : (s.updateRecord f).acc = s.acc := rfl
@[simp] theorem Station.updateRecord_store (s : Station) (f : ReqRecord → ReqRecord) : (s.updateRecord f).store = s.store := rfl
@[simp] theorem Station.updateRecord_free (s : Station) (f : ReqRecord → ReqRecord) : (s.updateRecord f).free = s.free := rfl

@[simp] theorem Station.doneEcho_pins (s : Station) (d : Done) : (s.doneEcho d).pins = s.pins := rfl
@[simp] theorem Station.doneEcho_ctl (s : Station) (d : Done) : (s.doneEcho d).ctl = s.ctl := rfl
@[simp] theorem Station.doneEcho_liu (s : Station) (d : Done) : (s.doneEcho d).liu = s.liu := rfl
@[simp] theorem Station.doneEcho_req (s : Station) (d : Done) : (s.doneEcho d).req = s.req := rfl
@[simp] theorem Station.doneEcho_span (s : Station) (d : Done) : (s.doneEcho d).span = s.span := rfl
@[simp] theorem Station.doneEcho_prm (s : Station) (d : Done) : (s.doneEcho d).prm = s.prm := rfl
@[simp] theorem Station.doneEcho_acc (s : Station) (d : Done) : (s.doneEcho d).acc = s.acc := rfl
@[simp] theorem Station.doneEcho_store (s : Station) (d : Done) : (s.doneEcho d).store = s.store := rfl
@[simp] theorem Station.doneEcho_free (s : Station) (d : Done) : (s.doneEcho d).free = s.free := rfl

@[simp] theorem Station.orphaned_pins (s : Station) (p : Place) : (s.orphaned p).pins = s.pins := rfl
@[simp] theorem Station.orphaned_ctl (s : Station) (p : Place) : (s.orphaned p).ctl = s.ctl := rfl
@[simp] theorem Station.orphaned_liu (s : Station) (p : Place) : (s.orphaned p).liu = s.liu := rfl
@[simp] theorem Station.orphaned_req (s : Station) (p : Place) : (s.orphaned p).req = s.req := rfl
@[simp] theorem Station.orphaned_span (s : Station) (p : Place) : (s.orphaned p).span = s.span := rfl
@[simp] theorem Station.orphaned_prm (s : Station) (p : Place) : (s.orphaned p).prm = s.prm := rfl
@[simp] theorem Station.orphaned_acc (s : Station) (p : Place) : (s.orphaned p).acc = s.acc := rfl
@[simp] theorem Station.orphaned_store (s : Station) (p : Place) : (s.orphaned p).store = s.store := rfl
@[simp] theorem Station.orphaned_free (s : Station) (p : Place) : (s.orphaned p).free = s.free := rfl

@[simp] theorem Station.faultAnswer_pins (s : Station) (n : Nat) (a : Answer) : (s.faultAnswer n a).pins = s.pins := rfl
@[simp] theorem Station.faultAnswer_ctl (s : Station) (n : Nat) (a : Answer) : (s.faultAnswer n a).ctl = s.ctl := rfl
@[simp] theorem Station.faultAnswer_liu (s : Station) (n : Nat) (a : Answer) : (s.faultAnswer n a).liu = s.liu := rfl
@[simp] theorem Station.faultAnswer_req (s : Station) (n : Nat) (a : Answer) : (s.faultAnswer n a).req = s.req := rfl
@[simp] theorem Station.faultAnswer_span (s : Station) (n : Nat) (a : Answer) : (s.faultAnswer n a).span = s.span := rfl
@[simp] theorem Station.faultAnswer_prm (s : Station) (n : Nat) (a : Answer) : (s.faultAnswer n a).prm = s.prm := rfl
@[simp] theorem Station.faultAnswer_acc (s : Station) (n : Nat) (a : Answer) : (s.faultAnswer n a).acc = s.acc := rfl
@[simp] theorem Station.faultAnswer_store (s : Station) (n : Nat) (a : Answer) : (s.faultAnswer n a).store = s.store := rfl
@[simp] theorem Station.faultAnswer_free (s : Station) (n : Nat) (a : Answer) : (s.faultAnswer n a).free = s.free := rfl

@[simp] theorem Station.doorHeard_pins (s : Station) (o : Bool) (a n : Nat) : (s.doorHeard o a n).pins = s.pins := rfl
@[simp] theorem Station.doorHeard_ctl (s : Station) (o : Bool) (a n : Nat) : (s.doorHeard o a n).ctl = s.ctl := rfl
@[simp] theorem Station.doorHeard_liu (s : Station) (o : Bool) (a n : Nat) : (s.doorHeard o a n).liu = s.liu := rfl
@[simp] theorem Station.doorHeard_req (s : Station) (o : Bool) (a n : Nat) : (s.doorHeard o a n).req = s.req := rfl
@[simp] theorem Station.doorHeard_span (s : Station) (o : Bool) (a n : Nat) : (s.doorHeard o a n).span = s.span := rfl
@[simp] theorem Station.doorHeard_prm (s : Station) (o : Bool) (a n : Nat) : (s.doorHeard o a n).prm = s.prm := rfl
@[simp] theorem Station.doorHeard_acc (s : Station) (o : Bool) (a n : Nat) : (s.doorHeard o a n).acc = s.acc := rfl
@[simp] theorem Station.doorHeard_store (s : Station) (o : Bool) (a n : Nat) : (s.doorHeard o a n).store = s.store := rfl
@[simp] theorem Station.doorHeard_free (s : Station) (o : Bool) (a n : Nat) : (s.doorHeard o a n).free = s.free := rfl

@[simp] theorem Station.openOccupancy_pins (s : Station) (d a : Nat) : (s.openOccupancy d a).pins = s.pins := rfl
@[simp] theorem Station.openOccupancy_ctl (s : Station) (d a : Nat) : (s.openOccupancy d a).ctl = s.ctl := rfl
@[simp] theorem Station.openOccupancy_liu (s : Station) (d a : Nat) : (s.openOccupancy d a).liu = s.liu := rfl
@[simp] theorem Station.openOccupancy_req (s : Station) (d a : Nat) : (s.openOccupancy d a).req = s.req := rfl
@[simp] theorem Station.openOccupancy_span (s : Station) (d a : Nat) : (s.openOccupancy d a).span = s.span := rfl
@[simp] theorem Station.openOccupancy_seq (s : Station) (d a : Nat) : (s.openOccupancy d a).seq = s.seq := rfl
@[simp] theorem Station.openOccupancy_prm (s : Station) (d a : Nat) : (s.openOccupancy d a).prm = s.prm := rfl
@[simp] theorem Station.openOccupancy_acc (s : Station) (d a : Nat) : (s.openOccupancy d a).acc = s.acc := rfl
@[simp] theorem Station.openOccupancy_free (s : Station) (d a : Nat) : (s.openOccupancy d a).free = s.free := rfl

@[simp] theorem Station.seed_pins (s : Station) : s.seed.pins = s.pins := rfl
@[simp] theorem Station.seed_ctl (s : Station) : s.seed.ctl = s.ctl := rfl
@[simp] theorem Station.seed_req (s : Station) : s.seed.req = s.req := rfl
@[simp] theorem Station.seed_span (s : Station) : s.seed.span = s.span := rfl
@[simp] theorem Station.seed_seq (s : Station) : s.seed.seq = s.seq := rfl
@[simp] theorem Station.seed_prm (s : Station) : s.seed.prm = s.prm := rfl
@[simp] theorem Station.seed_acc (s : Station) : s.seed.acc = s.acc := rfl
@[simp] theorem Station.seed_store (s : Station) : s.seed.store = s.store := rfl
@[simp] theorem Station.seed_free (s : Station) : s.seed.free = s.free := rfl

@[simp] theorem Station.dequeue_pins (s : Station) : s.dequeue.pins = s.pins := rfl
@[simp] theorem Station.dequeue_ctl (s : Station) : s.dequeue.ctl = s.ctl := rfl
@[simp] theorem Station.dequeue_req (s : Station) : s.dequeue.req = s.req := rfl
@[simp] theorem Station.dequeue_span (s : Station) : s.dequeue.span = s.span := rfl
@[simp] theorem Station.dequeue_seq (s : Station) : s.dequeue.seq = s.seq := rfl
@[simp] theorem Station.dequeue_prm (s : Station) : s.dequeue.prm = s.prm := rfl
@[simp] theorem Station.dequeue_acc (s : Station) : s.dequeue.acc = s.acc := rfl
@[simp] theorem Station.dequeue_store (s : Station) : s.dequeue.store = s.store := rfl
@[simp] theorem Station.dequeue_free (s : Station) : s.dequeue.free = s.free := rfl

@[simp] theorem Station.chainLevel_ctl (s : Station) (b : Bool) : (s.chainLevel b).ctl = s.ctl := rfl
@[simp] theorem Station.chainLevel_liu (s : Station) (b : Bool) : (s.chainLevel b).liu = s.liu := rfl
@[simp] theorem Station.chainLevel_req (s : Station) (b : Bool) : (s.chainLevel b).req = s.req := rfl
@[simp] theorem Station.chainLevel_span (s : Station) (b : Bool) : (s.chainLevel b).span = s.span := rfl
@[simp] theorem Station.chainLevel_seq (s : Station) (b : Bool) : (s.chainLevel b).seq = s.seq := rfl
@[simp] theorem Station.chainLevel_prm (s : Station) (b : Bool) : (s.chainLevel b).prm = s.prm := rfl
@[simp] theorem Station.chainLevel_acc (s : Station) (b : Bool) : (s.chainLevel b).acc = s.acc := rfl
@[simp] theorem Station.chainLevel_store (s : Station) (b : Bool) : (s.chainLevel b).store = s.store := rfl
@[simp] theorem Station.chainLevel_free (s : Station) (b : Bool) : (s.chainLevel b).free = s.free := rfl

@[simp] theorem Station.enterOffline_pins (s : Station) (r : OfflineReason) : (s.enterOffline r).pins = s.pins := rfl
@[simp] theorem Station.enterOffline_store (s : Station) (r : OfflineReason) : (s.enterOffline r).store = s.store := rfl
@[simp] theorem Station.enterOffline_free (s : Station) (r : OfflineReason) : (s.enterOffline r).free = s.free := rfl

@[simp] theorem Station.tickTimers_pins (s : Station) : s.tickTimers.pins = s.pins := rfl
@[simp] theorem Station.tickTimers_liu (s : Station) : s.tickTimers.liu = s.liu := rfl
@[simp] theorem Station.tickTimers_prm (s : Station) : s.tickTimers.prm = s.prm := rfl
@[simp] theorem Station.tickTimers_acc (s : Station) : s.tickTimers.acc = s.acc := rfl
@[simp] theorem Station.tickTimers_free (s : Station) : s.tickTimers.free = s.free := rfl

/-! A start keeps supplies, store and free counter and puts every volatile block at its reset value (R25, R40). -/

@[simp] theorem Station.start_pins (m : Mode) (c : ResetCause) (p : Pins) (st : RetainedStore) (n : Nat) :
    (Station.start m c p st n).pins = p := rfl
@[simp] theorem Station.start_store (m : Mode) (c : ResetCause) (p : Pins) (st : RetainedStore) (n : Nat) :
    (Station.start m c p st n).store = st := rfl
@[simp] theorem Station.start_free (m : Mode) (c : ResetCause) (p : Pins) (st : RetainedStore) (n : Nat) :
    (Station.start m c p st n).free = n := rfl
@[simp] theorem Station.start_ctl (m : Mode) (c : ResetCause) (p : Pins) (st : RetainedStore) (n : Nat) :
    (Station.start m c p st n).ctl = Control.start m c := rfl
@[simp] theorem Station.start_liu (m : Mode) (c : ResetCause) (p : Pins) (st : RetainedStore) (n : Nat) :
    (Station.start m c p st n).liu = Liu.reset := rfl
@[simp] theorem Station.start_req (m : Mode) (c : ResetCause) (p : Pins) (st : RetainedStore) (n : Nat) :
    (Station.start m c p st n).req = RequestUnit.reset := rfl
@[simp] theorem Station.start_span (m : Mode) (c : ResetCause) (p : Pins) (st : RetainedStore) (n : Nat) :
    (Station.start m c p st n).span = SpanUnit.reset := rfl
@[simp] theorem Station.start_seq (m : Mode) (c : ResetCause) (p : Pins) (st : RetainedStore) (n : Nat) :
    (Station.start m c p st n).seq = Sequencer.reset := rfl
@[simp] theorem Station.start_prm (m : Mode) (c : ResetCause) (p : Pins) (st : RetainedStore) (n : Nat) :
    (Station.start m c p st n).prm = PromptUnit.reset := rfl
@[simp] theorem Station.start_acc (m : Mode) (c : ResetCause) (p : Pins) (st : RetainedStore) (n : Nat) :
    (Station.start m c p st n).acc = AccRecord.resetAll := rfl

end Sys2Proof.Machine
end

