-- ==== Sys2Proof/WellFormed.lean ====
section
/-! DEFINITION. The checks of a well-formed command: its operands are what the event of its row can bring. -/

namespace Sys2Proof

open Machine

/-- A run of characters that ends with the completion of the sync pair, and not before (R6): the last is 0x69, and the
characters before it leave a hunting receiver in SYNC, or there are none and the receiver was in SYNC already. -/
def syncRun (chars : List Byte) : Bool :=
  chars.getLast? == some 0x69#8 &&
    (chars.length == 1 || chars.dropLast.foldl huntChar .hunt == .sync || chars.dropLast.foldl huntChar .sync == .sync)

/-- The characters of a frame still to be taken, the second CHECK character the last: 1 at the least, and at the most the 54 that
a body of 48 makes from LEN on (R3, R7). -/
def frameRun (chars : List Byte) : Bool := decide (1 ≤ chars.length) && decide (chars.length ≤ 54)

/-- The levels since an edge that make neither a framing error nor a break (R2): noise, a character or a part of one. -/
def busyLevels (levels : List Bool) : Bool :=
  decide (levels.length ≤ 10) && (match readChar levels with | .framingError => false | _ => true)

/-- A tag names a CIU (R27). -/
def ciuByte (b : Byte) : Bool := ciuAddr b.toNat

/-- The status word names the row's command (R125, R126). -/
def namesCommand (code : Nat) (status : Word) : Bool := decide (statusCommand status = code)

/-- The command's operands are what its event can bring; a row without operands is always well formed. -/
def Instr.wellFormed : Instr → Bool
  | .powerOn => true
  | .resetPin => true
  | .leaveReset => true
  | .vddLoss _ => true
  | .configReadComplete block => decide (block.length = 32)
  | .tick => true
  | .secondsAdvance => true
  | .lineBusy levels => busyLevels levels
  | .gapEnd => true
  | .malformedLen len => decide (49 ≤ len.toNat)
  | .framingError levels => decide (readChar levels = .framingError)
  | .breakHeard levels => decide (readChar levels = .lineBreak)
  | .frameReceived chars => frameRun chars
  | .unknownKind => true
  | .slotWaitEnd => true
  | .collision => true
  | .breakSentEnd => true
  | .heardBack => true
  | .chainInActive => true
  | .chainInRise => true
  | .chainInQuiet => true
  | .orderingTimeout => true
  | .chainOutBurst => true
  | .learningPeriodEnd => true
  | .mountCall => true
  | .demountCall => true
  | .offer => true
  | .offerWindowExpiry ciu _ => ciuByte ciu
  | .takeWaitExpiry ciu _ => ciuByte ciu
  | .take => true
  | .takeHoldEnd ciu _ => ciuByte ciu
  | .done => true
  | .requestAgeing => true
  | .requestWaitingDue => true
  | .span => true
  | .staleMark => true
  | .restatementTimer => true
  | .waitingTimer => true
  | .nudge => true
  | .stationSilentDue => true
  | .prompt => true
  | .promptClear => true
  | .reply => true
  | .promptExpiry => true
  | .promptEscalation => true
  | .promptResend => true
  | .travelCompletion w => namesCommand 1 w
  | .pickCompletion w => namesCommand 2 w
  | .placeCompletion w => namesCommand 3 w
  | .readLabelCompletion w _ _ _ _ => namesCommand 4 w
  | .ringCheckCompletion w _ => namesCommand 5 w
  | .reportCompletion w _ _ => namesCommand 6 w
  | .stopCompletion w => namesCommand 7 w
  | .commandTimeout => true
  | .doneRepostTimer => true
  | .doorOpen => true
  | .doorRaiseTimer => true
  | .tallyAsk => true
  | .tally => true
  | .periodClose => true
  | .closeComplete => true
  | .tallyTaken => true
  | .statusAsk => true
  | .status => true
  | .restart => true
  | .doorClose => true
  | .syncPairFound chars => syncRun chars
  | .chainInFall => true
  | .vbakLoss => true

end Sys2Proof
end

