-- ==== Sys2Proof/Tests/Slice0.lean ====
section
/-! SUPPORT. Tests: the checks of WellFormed refuse ill-formed commands; the spec's worked figures; one small test or two for each
command, on the station of the worked case (04_rail_geometry_and_offer_cost.md 4.9, station 5, index 2); and for each statement with
hypotheses a state and operands that meet them, clause by clause. Expected values come from the spec's examples and rules, not
from the model. -/

namespace Sys2Proof.Tests

/- One theorem at a time: elaborated side by side, these many small evaluations ask for more threads than the check's memory
limit gives stacks to. -/
set_option Elab.async false

open Sys2Proof Sys2Proof.Machine

/-! ## Small states -/

/-- The configuration of the worked case (03, 3.2: the first example block). -/
def cfg : ConfigValues :=
  { address := 5, n := 4, divisor := 4, railLo := 500, railHi := 40500, H := 600, G := 200, V := 20, R := 25, K := 180, N := 150,
    B := 400, windowPos := 20000, windowEast := false, windowTier := 2, clean := 40 }

/-- Station 5 in READY, index 2, parked at 16,000, nothing owned, its line idle. -/
def five : Station :=
  let s := Station.start .ready .powerOn ⟨true, true, false, false⟩ { RetainedStore.cleared with clearedMemory := false } 0
  { s with
    ctl := { s.ctl with cfg := some cfg, index := some 2, second := 5000, burstTimer := some (.ticks 0) },
    liu := { s.liu with running := true, divisor := 4, lineBusy := false, backoff := 1287 },
    span := { s.span with own := some ⟨15400, 16600, .parked, false⟩, rest := some 16000, fresh := false },
    seq := { s.seq with pos := some 16000, posKnown := true } }

/-- The first example block of 3.2: the fields, eight bytes of 0 and the byte that brings the sum to 0. -/
def block (n h : Nat) (lo hi : Nat) : List Byte :=
  let b := [5, n, 4, lo / 256, lo % 256, hi / 256, hi % 256, h / 256, h % 256, 0, 200, 20, 25, 0, 180, 0, 150, 1, 144, 78, 32, 2, 40,
    0, 0, 0, 0, 0, 0, 0, 0].map byteOf
  b ++ [byteOf (256 - blockSum b)]

def onLiu (f : Liu → Liu) : Station := { five with liu := f five.liu }
def onCtl (f : Control → Control) : Station := { five with ctl := f five.ctl }
def onSpan (f : SpanUnit → SpanUnit) : Station := { five with span := f five.span }
def onSeq (f : Sequencer → Sequencer) : Station := { five with seq := f five.seq }
def onPrm (f : PromptUnit → PromptUnit) : Station := { five with prm := f five.prm }
def onStore (f : RetainedStore → RetainedStore) : Station := { five with store := f five.store }

/-- The station with entries in its request table. -/
def table (l : List Entry) (owned : List Tag) (active : Option Tag) : Station :=
  { five with req := { five.req with table := l, owned := owned, active := active } }

/-- A state with nothing waiting. -/
def at_ (x : Station) : State := ⟨x, []⟩

/-- The station after a command. -/
def after (c : Instr) (x : Station) : Station :=
  match exec c (at_ x) with
  | .next t => t.station
  | _ => x

/-- The station with a frame at the head of its receive queue. -/
def handed (x : Station) (own : Bool) (f : Frame) : Station := { x with liu := { x.liu with rxq := [⟨f, own⟩] } }

/-- The worked call: tag 42/17, "AB0042", from 14,350 E 3 to drive 6 at 22,100 W 1 (02, 2.10). -/
def reel : Call :=
  { tag := ⟨42, 17⟩, kind := .mount, urgent := false, volume := [0x41, 0x42, 0x30, 0x30, 0x34, 0x32], account := 311, ring := true,
    source := some ⟨14350, true, 3, false⟩, driveNo := 6, drive := ⟨22100, false, 1, false⟩, ret := none }

/-- A demount of the same reel to a cell. -/
def back : Call := { reel with tag := ⟨44, 9⟩, kind := .demount, ring := false, source := none, ret := some ⟨14350, true, 3, false⟩ }

/-- An entry of the worked call. -/
def entry (st : EntryState) (ph : Phase) (own : Option OwnOffer) (best : Option Offer) (owner : Option Owner) : Entry :=
  ⟨reel, 4000, st, ph, own, best, owner, false, false, none, none, false, false, none⟩

/-- The record of the worked call at a stage. -/
def record (st : Stage) : ReqRecord := ⟨⟨42, 17⟩, st, none, .drive, .mounted, false, false, none⟩

/-- The worked call OWNED and ACTIVE, its record at a stage, with a command in flight. -/
def serving (st : Stage) (hand : Hand) (cmd : Option Command) : Station :=
  let x := table [entry .owned .none none none none] [⟨42, 17⟩] (some ⟨42, 17⟩)
  { x with seq := { x.seq with record := some (record st), hand := hand, cmd := cmd.map fun c => ⟨c, .stage, 800, none, false⟩ } }

/-- The frame of a peer's message, address 3, index 1. -/
def peer (m : Msg) : Frame := m.frame 3 63

/-- A frame of the console or the collector to station 5. -/
def from_ (src : Nat) (m : Msg) : Frame := ⟨m.code, byteOf src, 5, m.body⟩

/-- An entry of the prompt list. -/
def prompt (num : Nat) (k : PromptKind) (shown : Bool) (raised : Nat) : PromptEntry :=
  ⟨num, k, k.level, PromptFields.none, raised, shown, false, none, .none⟩

def listed (l : List PromptEntry) : Station := onPrm fun p => { p with list := l, beacon := l.any fun e => e.level == .urgent }

/-- A peer's entry of the span table: address 3, index 1, parked at 9,000 (04, 4.9). -/
def west : PeerSpan := ⟨1, 3, 8400, 9600, .parked, 5000, false⟩

/-- A queue entry of a frame of a kind. -/
def queued (kind : Byte) : TxEntry := ⟨⟨kind, 69, 63, []⟩, .request, 0, 8, false⟩

/-- A decidable reading of `Station.Hands`. -/
def handsB (s : Station) (h : Heard) (m : Msg) (rest : List RxEntry) : Bool :=
  match s.liu.rxq with
  | e :: r => s.liu.running && e.own == h.own && decide (r = rest) && decide (accept s.cv.n e.frame = some m) &&
      addrOf e.frame.src == h.src && addrOf e.frame.dst == h.dst
  | [] => false

theorem hands_of {s : Station} {h : Heard} {m : Msg} {rest : List RxEntry} (hb : handsB s h m rest = true) : s.Hands h m rest := by
  unfold handsB at hb
  split at hb
  · rename_i e r he
    simp only [Bool.and_eq_true, beq_iff_eq, decide_eq_true_eq] at hb
    obtain ⟨⟨⟨⟨⟨h1, h2⟩, rfl⟩, h4⟩, h5⟩, h6⟩ := hb
    exact ⟨h1, e.frame, by rw [he, ← h2], h4, h5, h6⟩
  · cases hb

/-- R2: a stop bit at space with a mark 23 bit times after the edge, and with none before 24. -/
def errorLevels : List Bool := List.replicate 23 false ++ [true]
def breakLevels : List Bool := plainBreak

/-! ## Ill-formed commands are refused by the check -/

theorem test_wf_block : (Instr.configReadComplete (List.replicate 31 0)).wellFormed = false := by decide
theorem test_wf_len : (Instr.malformedLen 48).wellFormed = false ∧ (Instr.malformedLen 49).wellFormed = true := by decide
theorem test_wf_frame : (Instr.frameReceived []).wellFormed = false ∧ (Instr.frameReceived (List.replicate 55 0)).wellFormed = false ∧
    (Instr.frameReceived (List.replicate 54 0)).wellFormed = true := by decide
/-- R2: LINE_BUSY carries no framing error and no break, the other two carry one. -/
theorem test_wf_levels : (Instr.lineBusy ([false] ++ List.replicate 9 false)).wellFormed = true ∧ (Instr.lineBusy errorLevels).wellFormed = false ∧
    (Instr.framingError errorLevels).wellFormed = true ∧ (Instr.framingError breakLevels).wellFormed = false ∧
    (Instr.breakHeard breakLevels).wellFormed = true ∧ (Instr.breakHeard (charLevels 0x69)).wellFormed = false := by decide
theorem test_wf_sync : (Instr.syncPairFound [0x96, 0x68]).wellFormed = false ∧ (Instr.syncPairFound [0x96, 0x96, 0x69]).wellFormed = true := by
  decide
theorem test_wf_tag : (Instr.offerWindowExpiry 39 1).wellFormed = false ∧ (Instr.takeWaitExpiry 48 1).wellFormed = false ∧
    (Instr.takeHoldEnd 0 1).wellFormed = false := by decide
theorem test_wf_status : (Instr.travelCompletion 0x200).wellFormed = false ∧ (Instr.pickCompletion 0x100).wellFormed = false ∧
    (Instr.placeCompletion 0x400).wellFormed = false ∧ (Instr.readLabelCompletion 0x300 0 0 0 0).wellFormed = false ∧
    (Instr.ringCheckCompletion 0x600 1).wellFormed = false ∧ (Instr.reportCompletion 0x500 0 0).wellFormed = false ∧
    (Instr.stopCompletion 0x600).wellFormed = false := by decide

/-! ## The spec's figures -/

/-- R4: CHECK of the digits 1 to 9. -/
theorem test_check : crc [0x31, 0x32, 0x33, 0x34, 0x35, 0x36, 0x37, 0x38, 0x39] = 0x29B1 := by decide +kernel

/-- R22: the first five draws of the station at address 7, index 3. -/
theorem test_backoff : backoffSeed 7 3 = 1802 ∧ backoffAdvance 1802 = 3604 ∧ backoffAdvance 3604 = 7208 ∧ backoffAdvance 7208 = 14416 ∧
    backoffAdvance 14416 = 28833 ∧ backoffAdvance 28833 = 24898 := by decide

/-- 2.10: the frame lengths of the worked exchange. -/
theorem test_frame_lengths : ((Msg.call reel).body.length, (Msg.offer ⟨42, 17⟩ 881 2).body.length, (Msg.take ⟨42, 17⟩ 881 2 false).body.length,
    (Msg.span 2 .moving 13750 16600 false false).body.length, (Msg.reply 5 0 .retry).body.length, (Msg.clear 0 .answered).body.length) =
    (19, 5, 6, 7, 3, 2) := by decide

/-- 2.9: the bytes of the OFFER 881 of station 5, written out: tag, cost 0x0371, index. -/
theorem test_offer_bytes : (Msg.offer ⟨42, 17⟩ 881 2).frame 5 63 = ⟨0x21, 0x45, 63, [42, 17, 3, 0x71, 2]⟩ := by decide

/-- 2.9: the bytes of the SPAN MOVING [13,750, 16,600]. -/
theorem test_span_bytes : ((Msg.span 2 .moving 13750 16600 false false).frame 5 63).body = [2, 1, 0x35, 0xB6, 0x40, 0xD8, 0] := by decide

/-- 2.10: the bytes of the MOUNT-CALL. -/
theorem test_call_bytes : (Msg.call reel).body = [17, 0, 0, 1, 0x41, 0x42, 0x30, 0x30, 0x34, 0x32, 1, 0x37, 0x38, 0x0E, 0x13, 6, 0x56, 0x54, 0x01] := by
  decide

/-- 4.9: the costs of the worked call at the four stations: 1,666, 1,216, 881 and 1,731. -/
theorem test_costs :
    let others := fun k : Nat => ([(0, 2, 3000), (1, 3, 9000), (2, 5, 16000), (3, 9, 30000)].filter fun x : Nat × Nat × Nat => x.1 != k).map
      fun x => (⟨x.1, x.2.1, x.2.2 - 600, x.2.2 + 600, .parked, 5000, false⟩ : PeerSpan)
    let station (k p : Nat) : Station := { five with
      ctl := { five.ctl with index := some k }, span := { five.span with rest := some p, peers := others k } }
    ((station 0 3000).cost reel).map Prod.fst = some 1666 ∧ ((station 1 9000).cost reel).map Prod.fst = some 1216 ∧
      ((station 2 16000).cost reel).map Prod.fst = some 881 ∧ ((station 3 30000).cost reel).map Prod.fst = some 1731 := by decide

/-- 4.7: the four example spans against [13,750, 16,600]. -/
theorem test_conflicts : [cfg.conflict 13750 16600 8400 9600, cfg.conflict 13750 16600 16800 18000, cfg.conflict 13750 16600 16799 18000,
    cfg.conflict 13750 16600 14000 15000] = [false, false, true, true] := by decide

/-- No word spells a command: the table gives its rows no bits. -/
theorem test_no_bits : decodeTableWord 8 0 = none ∧ decodeTableWord 16 0xFFFF = none := by decide

/-! ## Each command, on one step -/

def stopped (pins : Pins) : Station := Station.start .reset .powerOn pins { RetainedStore.cleared with valid := false } 0
def on : Pins := ⟨true, true, false, false⟩
def started : Station := Station.start .config .powerOn on RetainedStore.cleared 0
def ordering : Station := { five with ctl := { five.ctl with mode := .ordering, index := none, burstTimer := none, orderingTimer := some 200 } }
def learning : Station := onCtl fun c => { c with mode := .learning, learningTimer := some 0 }

/-- R40, R174: POWER_ON holds the station in RESET; leaving it clears a store whose latch is clear, and marks it lost. -/
theorem test_power_on : (after .powerOn (stopped { on with vdd := false })).ctl.mode = .reset ∧
    (after .powerOn (stopped { on with vdd := false })).ctl.cause = .powerOn := by decide +kernel
theorem test_leave_reset : (after .leaveReset (stopped on)).ctl.mode = .config ∧ (after .leaveReset (stopped on)).store.storeLost = true ∧
    (after .leaveReset (stopped on)).store.valid = true := by decide +kernel
theorem test_reset_pin : (after .resetPin five).ctl.mode = .reset ∧ (after .resetPin five).ctl.cause = .resetPin ∧
    (after .resetPin five).store = five.store := by decide +kernel
/-- R173: VBAK keeps the store while VDD is lost. -/
theorem test_vdd_loss : (after (.vddLoss true) five).store = five.store ∧ (after (.vddLoss false) five).store.valid = false := by decide +kernel
theorem test_vbak_loss : (after .vbakLoss five).store = five.store ∧ (after .vbakLoss (stopped { on with vdd := false })).store.valid = false := by
  decide +kernel

/-- 3.2: the first example block leads to ORDERING with no field clamped; the second to OFFLINE with GEOMETRY-BAD and H 2,000. -/
theorem test_config_block : (after (.configReadComplete (block 4 600 500 40500)) started).ctl.mode = .ordering ∧
    (after (.configReadComplete (block 4 600 500 40500)) started).ctl.cfg = some cfg ∧
    (after (.configReadComplete (block 4 600 500 40500)) started).liu.divisor = 4 := by decide +kernel
theorem test_config_geometry : (after (.configReadComplete (block 8 2600 500 20500)) started).ctl.offline = .geometryBad ∧
    (after (.configReadComplete (block 8 2600 500 20500)) started).cv.H = 2000 ∧
    (after (.configReadComplete (block 8 2600 500 20500)) started).liu.running = true := by decide +kernel

/-- R41: the tick counter, and the second after tick 99. -/
theorem test_tick : (after .tick (onCtl fun c => { c with tick := 98 })).ctl.tick = 99 ∧
    (after .tick (onCtl fun c => { c with tick := 98 })).ctl.second = 5000 := by decide +kernel
theorem test_second : (after .secondsAdvance (onCtl fun c => { c with tick := 99 })).ctl.second = 5001 ∧
    (after .secondsAdvance (onCtl fun c => { c with tick := 99, second := 4294967295 })).ctl.second = 4294967295 := by decide +kernel

/-- R2: 0x69 is 1001 0110 from the least significant bit; noise; a stop bit at space. -/
theorem test_levels : charLevels 0x69 = [false, true, false, false, true, false, true, true, false, true] ∧
    readChar [false, true, false, false, true, false, true, true, false, true] = .char 0x69 ∧ readChar [true] = .noise ∧
    readChar errorLevels = .framingError ∧ readChar breakLevels = .lineBreak ∧ readChar plainFramingError = .framingError := by decide
/-- 1.11, event 5: space heard in a wait returns the access to GAP-WAIT; events 1 and 4: NORMAL waits are 4 slots and a draw below the window. -/
theorem test_line_busy :
    (after (.lineBusy [false]) (onLiu fun l => { l with access := .slotWait 15, txq := [queued 0x23] })).liu.access = .gapWait := by
  decide +kernel
/-- R5: HEADER through DST, BODY from the first body byte, HUNT after CHECK. -/
theorem test_body :
    let f := (Msg.offer ⟨42, 17⟩ 881 2).frame 3 63
    let run (n : Nat) : Liu := ((f.onLine.take n).map charLevels).foldl Liu.lineBusyAt five.liu
    (run 1).receiver = .sync ∧ (run 2).receiver = .header [] ∧ (run 6).receiver = .body (f.chars.take 4) ∧
      (run 5).receiver = .header (f.chars.take 3) ∧ (run 13).receiver = .hunt ∧ (run 13).rxq = [⟨f, false⟩] := by decide +kernel
theorem test_gap_end :
    (after .gapEnd (onLiu fun l => { l with access := .gapWait, lineBusy := true, backoff := 14416, txq := [queued 0x21] })).liu.access =
      .slotWait (4 + 28833 % 8) ∧
    (after .gapEnd (onLiu fun l => { l with access := .gapWait, backoff := 14416, txq := [queued 0x31] })).liu.access =
      .slotWait (28833 % 4) := by decide +kernel
/-- R6: a run of 0x96 and a 0x69 is a sync pair. -/
theorem test_sync_pair : (after (.syncPairFound [0x96, 0x96, 0x69]) five).liu.receiver = .header [] := by decide +kernel
theorem test_malformed : (after (.malformedLen 49) (onLiu fun l => { l with receiver := .header [] })).liu.counters.malformed = 1 := by
  decide +kernel
theorem test_framing : (after (.framingError errorLevels) (onLiu fun l => { l with receiver := .body [1, 2, 3, 4] })).liu.counters.malformed = 1 ∧
    (after (.framingError errorLevels) five).liu.counters.malformed = 0 := by decide +kernel
/-- 1.11, event 2: a station that does not send counts an abort heard; one that breaks counts nothing. -/
theorem test_break : (after (.breakHeard breakLevels) (onLiu fun l => { l with receiver := .header [] })).liu.counters.abortsHeard = 1 ∧
    (after (.breakHeard breakLevels) (onLiu fun l => { l with receiver := .header [], access := .breaking })).liu.counters.abortsHeard = 0 := by
  decide +kernel

def inFrame (r : Receiver) (k : Nat) : Station := onLiu fun l => { l with receiver := r, rxq := List.replicate k ⟨peer (.nudge false 1 1), false⟩ }
def receiving (k : Nat) : Station := inFrame (.header []) k
/-- R8, R10: a good frame joins the queue, a fifth is an overrun, a wrong CHECK a CRC error. The frame is the OFFER of 2.10, its CHECK
worked out by R4. -/
theorem test_frame_received :
    let f := (Msg.offer ⟨42, 17⟩ 881 2).frame 5 63
    (after (.frameReceived f.chars) (receiving 3)).liu.rxq.length = 4 ∧ (after (.frameReceived f.chars) (receiving 4)).liu.counters.overruns = 1 ∧
      (after (.frameReceived (f.covered ++ [0, 0])) (receiving 0)).liu.counters.crcErrors = 1 := by decide +kernel
theorem test_unknown_kind : (after .unknownKind (handed five false ⟨0x24, 0x45, 63, []⟩)).liu.counters.unknownKinds = 1 ∧
    (after .unknownKind (handed five false ⟨0x24, 0x45, 63, []⟩)).liu.rxq = [] := by decide +kernel

def sending (kind : Byte) (n : Nat) : Station := onLiu fun l =>
  { l with access := .sending, txq := [{ queued kind with collisions := n }, queued 0x23], lineBusy := true }
theorem test_slot_end : (after .slotWaitEnd (onLiu fun l => { l with access := .slotWait 6, txq := [queued 0x21] })).liu.access = .sending := by
  decide +kernel
/-- 1.11, events 2 and 3: one collision, the break, and a window of 16. -/
theorem test_collision : (after .collision (sending 0x21 0)).liu.access = .breaking ∧ (after .collision (sending 0x21 0)).liu.counters.collisions = 1 ∧
    (after .collision (sending 0x21 0)).liu.txq.map (·.collisions) = [1, 0] := by decide +kernel
theorem test_break_end : (after .breakSentEnd (after .collision (sending 0x21 0))).liu.txq.map (·.window) = [16, 8] ∧
    (after .breakSentEnd (after .collision (sending 0x21 0))).liu.access = .gapWait ∧
    (after .breakSentEnd (after .collision (sending 0x21 7))).liu.counters.drops = 1 := by decide +kernel
/-- 1.11, event 6: the frame leaves the transmit queue and joins the receive queue with the own mark. -/
theorem test_heard_back : (after .heardBack (sending 0x21 1)).liu.txq = [queued 0x23] ∧ (after .heardBack (sending 0x21 1)).liu.rxq.map (·.own) = [true] ∧
    (after .heardBack (sending 0x21 1)).liu.access = .gapWait := by decide +kernel
/-- 1.12: a SPAN joins behind the TAKE; posted while one is in transmission it is held, and takes its place after a collision. -/
theorem test_held_span : (after .collision (onLiu fun l => { (sending 0x31 0).liu with heldSpan := some (peer (.span 2 .moving 1 2 false false)), backoff := l.backoff })).liu.txq.map
    (fun e => (e.frame.kind, e.collisions)) = [(0x31, 0), (0x23, 0)] := by decide +kernel

/-- 3.3: CHAIN-IN active for 3 pulse-times gives index 0; two pulses and 10 quiet pulse-times give index 2; four give ORDER-FAILED (n is 4). -/
theorem test_chain_active : (after .chainInActive ordering).ctl.index = some 0 ∧ (after .chainInActive ordering).ctl.mode = .learning := by decide +kernel
theorem test_chain_rise :
    (after .chainInRise { ordering with ctl := { ordering.ctl with armed := true, pulses := 1 } }).ctl.pulses = 2 ∧
      (after .chainInRise ordering).ctl.pulses = 0 := by decide +kernel
theorem test_chain_fall : (after .chainInFall { ordering with pins := { on with chainIn := true } }).pins.chainIn = false := by decide +kernel
theorem test_chain_quiet : (after .chainInQuiet ordering).ctl.armed = true ∧
    (after .chainInQuiet { ordering with ctl := { ordering.ctl with armed := true, pulses := 2 } }).ctl.index = some 2 ∧
    (after .chainInQuiet { ordering with ctl := { ordering.ctl with armed := true, pulses := 4 } }).ctl.offline = .orderFailed := by decide +kernel
theorem test_ordering_timeout : (after .orderingTimeout { ordering with ctl := { ordering.ctl with orderingTimer := some 0 } }).ctl.offline =
    .orderFailed := by decide +kernel
/-- R51: a burst of k + 1 pulses; the next one 1 s later and not before. -/
theorem test_burst :
    let t := after .chainOutBurst five
    t.ctl.burstPulses = 3 ∧ t.ctl.burstTimer = some (.ticks 100) ∧ after .chainOutBurst t = t ∧
      (after .tick t).ctl.burstTimer = some (.ticks 99) := by decide +kernel
theorem test_learning_end : (after .learningPeriodEnd learning).ctl.mode = .ready := by decide +kernel

/-! ### Claiming (5.9, station 5) -/

def bidding : Entry := entry .bidding .window (some ⟨881, 881, true⟩) (some ⟨881, 2⟩) none
def worked (e : Entry) : Station :=
  { table [e] (if e.state = .taking then [⟨42, 17⟩] else []) none with
    span := { five.span with peers := [⟨0, 2, 2400, 3600, .parked, 5000, false⟩, west, ⟨3, 9, 29400, 30600, .parked, 5000, false⟩] } }
def heardE : Entry := entry .heard .window none none none
def taking : Entry := { bidding with state := .taking, phase := .none }
/-- What there is to see of the call's entry. -/
def seen (x : Station) : Option (EntryState × Phase) := (x.req.find ⟨42, 17⟩).map fun e => (e.state, e.phase)
def marks (x : Station) : Option (Option Owner × Bool × Bool) := (x.req.find ⟨42, 17⟩).map fun e => (e.owner, e.hold, e.rival)

/-- 0 ms: an entry, and the OFFER of 881 from index 2. -/
theorem test_mount_call :
    let t := after .mountCall (handed { worked bidding with req := { five.req with table := [] } } false ((Msg.call reel).frame 2 63 |> fun f => { f with src := 42 }))
    seen t = some (.bidding, .window) ∧ t.liu.txq.map (·.frame.body) = [[42, 17, 3, 0x71, 2]] := by decide +kernel
/-- 5.10: a DEMOUNT-CALL is recorded too. -/
theorem test_demount_call :
    (after .demountCall (handed five false { (Msg.call back).frame 2 63 with src := 44 })).req.table.map (·.call) = [back] := by decide +kernel
/-- About 6 ms: a worse offer leaves the best heard; the own echo marks the own offer heard back. -/
theorem test_offer :
    ((after .offer (handed (worked bidding) false (peer (.offer ⟨42, 17⟩ 1216 1)))).req.find ⟨42, 17⟩).map (·.best) = some (some ⟨881, 2⟩) ∧
    ((after .offer (handed (worked { bidding with ownOffer := some ⟨881, 881, false⟩ }) true ((Msg.offer ⟨42, 17⟩ 881 2).frame 5 63))).req.find
      ⟨42, 17⟩).map (·.ownOffer) = some (some ⟨881, 881, true⟩) := by decide +kernel
/-- 80 ms: the winner posts its TAKE; a loser enters its take wait. -/
theorem test_window : seen (after (.offerWindowExpiry 42 17) (worked bidding)) = some (.taking, .none) ∧
    (after (.offerWindowExpiry 42 17) (worked bidding)).liu.txq.map (·.frame.body) = [[42, 17, 3, 0x71, 2, 0]] ∧
    seen (after (.offerWindowExpiry 42 17) (worked { bidding with best := some ⟨500, 1⟩ })) = some (.bidding, .takeWait) := by
  decide +kernel
theorem test_take_wait : seen (after (.takeWaitExpiry 42 17) (table [entry .bidding .takeWait none (some ⟨500, 1⟩) none] [] none)) =
    some (.heard, .none) := by decide +kernel
/-- 82 and 83 ms: a beaten rival take sets the mark; the own echo starts the hold. -/
theorem test_take : marks (after .take (handed (worked taking) false (peer (.take ⟨42, 17⟩ 1216 1 false)))) = some (none, false, true) ∧
    marks (after .take (handed (worked taking) true ((Msg.take ⟨42, 17⟩ 881 2 false).frame 5 63))) = some (none, true, false) ∧
    seen (after .take (handed (worked taking) true ((Msg.take ⟨42, 17⟩ 881 2 false).frame 5 63))) = some (.taking, .none) := by decide +kernel
/-- R89: a reassert is yielded to. -/
theorem test_take_yields : seen (after .take (handed (worked taking) false (peer (.take ⟨42, 17⟩ 0 1 false)))) = some (.peer, .none) ∧
    marks (after .take (handed (worked taking) false (peer (.take ⟨42, 17⟩ 0 1 false)))) = some (some ⟨3, ⟨0, 1, false⟩⟩, false, false) := by
  decide +kernel
/-- 93 ms: OWNED, ACTIVE, estimate 881 and the reassert. -/
theorem test_hold_end :
    let t := after (.takeHoldEnd 42 17) (worked { taking with hold := true, rival := true })
    (t.req.find ⟨42, 17⟩).map (fun e => (e.state, e.estimate, e.reassert)) = some (.owned, some 881, some false) ∧
      t.req.active = some ⟨42, 17⟩ ∧ (⟨0x22, 0x45, 63, [42, 17, 0, 0, 2, 0]⟩ : Frame) ∈ t.liu.txq.map (·.frame) := by decide +kernel
/-- 2.10: the own DONE heard back ends the request. -/
def mounted : Done := ⟨⟨42, 17⟩, .mount, .mounted, 6, reel.volume, 311, true, true⟩
theorem test_done :
    let t := after .done (handed (serving .completing .empty none) true ((Msg.done mounted).frame 5 63))
    t.req.table = [] ∧ t.req.active = none ∧ t.seq.record = none ∧ t.store.drives[6]? = some ⟨1, 1⟩ := by decide +kernel
theorem test_ageing : (after .requestAgeing (onCtl fun c => { c with second := 6800 })).req.table = [] ∧
    (after .requestAgeing { table [entry .heard .none none none none] [] none with ctl := { five.ctl with second := 5799 } }).req.table.length = 1 ∧
    (after .requestAgeing { table [entry .heard .none none none none] [] none with ctl := { five.ctl with second := 5800 } }).req.table = [] := by
  decide +kernel
/-- R100: 120 s and k. -/
theorem test_waiting_due :
    (after .requestWaitingDue { table [entry .heard .none none none none] [] none with ctl := { five.ctl with second := 4122 } }).prm.list.map (·.kind) =
      [.requestWaiting] ∧
    (after .requestWaitingDue { table [entry .heard .none none none none] [] none with ctl := { five.ctl with second := 4121 } }).prm.list = [] := by
  decide +kernel

/-! ### Spans (6.7) -/

/-- Station 5 asking the move to 12,000 (event 1). -/
def asks : Station := onSpan fun p =>
  { p with own := some ⟨11400, 16600, .moving, false⟩, reservation := .asking, move := some ⟨12000, .stage⟩, peers := [west] }
/-- Event 2 at station 5: the echo grants the move, and TRAVEL is issued with 650 ticks. -/
theorem test_span_echo :
    let t := after .span (handed asks true ((Msg.span 2 .moving 11400 16600 false false).frame 5 63))
    t.span.reservation = .granted ∧ t.seq.cmd = some ⟨.travel 12000, .stage, 650, none, false⟩ := by decide +kernel
/-- Event 2 at a station that hears the other's first: WAITING, 5 s, its entry at its rest span. -/
theorem test_span_lost :
    let t := after .span (handed asks false (peer (.span 1 .moving 8400 11600 false false)))
    t.span.reservation = .waiting ∧ t.span.waitTimer = some 500 ∧ t.span.own = some ⟨15400, 16600, .parked, false⟩ := by decide +kernel
theorem test_stale : (after .staleMark (onSpan fun p => { p with peers := [{ west with lastHeard := 4994 }, ⟨3, 9, 29400, 30600, .parked, 4995, false⟩] })).span.peers.map
    (·.stale) = [true, false] := by decide +kernel
theorem test_restate : (after .restatementTimer (onSpan fun p => { p with restateTimer := some 0 })).liu.txq.map (·.frame.body) =
      [[2, 0, 0x3C, 0x28, 0x40, 0xD8, 0]] ∧
    (after .restatementTimer (onSpan fun p => { p with restateTimer := some 0 })).span.restateTimer = some 200 := by decide +kernel
/-- Event 3, seen from station 3's place in the order reversed: a PARKED peer that conflicts is nudged. Here index 2 asks 9,000 past index 1. -/
def waits : Station := onSpan fun p =>
  { p with reservation := .waiting, move := some ⟨9000, .stage⟩, peers := [west], waitTimer := some 0, retries := 2 }
theorem test_waiting : (after .waitingTimer waits).prm.list.map (·.kind) = [.railBlocked] ∧
    (after .waitingTimer waits).liu.txq.map (fun e => (e.frame.dst, e.frame.body)) =
      [(3, [1, 0x20, 0x08, 2]), (63, [0, 8, 1, 0x04, 0x23, 0x28])] := by decide +kernel
/-- Event 4: a NUDGE east with boundary 11,800 at rest 12,000 is held while PICK is in flight. -/
def rest12 : Station := { serving .picking .empty (some (.pick ⟨12000, true, 3, false⟩)) with
  span := { five.span with rest := some 12000, own := some ⟨11400, 12600, .parked, false⟩, peers := [west] } }
theorem test_nudge : (after .nudge (handed rest12 false ((Msg.nudge false 11800 1).frame 3 5))).span.held = [⟨true, 11800, 1⟩] := by decide +kernel
theorem test_silent : (after .stationSilentDue (onSpan fun p => { p with peers := [{ west with lastHeard := 4992, stale := true }], silent := [⟨3, some 5000, false, false, none⟩] })).prm.list.map
    (fun e => (e.kind, e.fields.peer)) = [(.stationSilent, some 3)] := by decide +kernel

/-! ### The carriage -/

/-- 6.7, event 3: TRAVEL OK leaves the carriage at 12,000, PARKED [11,400, 12,600]. -/
def travels : Station := { onSeq (fun q => { q with cmd := some ⟨.travel 12000, .stage, 650, none, false⟩ }) with
  span := { asks.span with reservation := .granted } }
theorem test_travel : (after (.travelCompletion 0x100) travels).span.own = some ⟨11400, 12600, .parked, false⟩ ∧
    (after (.travelCompletion 0x100) travels).span.rest = some 12000 ∧
    (after (.travelCompletion 0x104) travels).seq.fault.map (·.cmd) = some (.travel 12000) := by decide +kernel
/-- 2.10: the cell is found empty and CELL-EMPTY is raised; the second pick succeeds. -/
theorem test_pick :
    let x := serving .picking .empty (some (.pick ⟨14350, true, 3, false⟩))
    (after (.pickCompletion 0x201) x).prm.list.map (fun e => (e.kind, e.fields.pos)) = [(.cellEmpty, some 14350)] ∧
      (after (.pickCompletion 0x200) x).seq.hand = .request ∧
      (after (.pickCompletion 0x200) x).seq.cmd.map (·.cmd) = some .readLabel := by decide +kernel
theorem test_place :
    let x := serving .placing .request (some (.place reel.drive))
    (after (.placeCompletion 0x300) x).seq.doneList.map (·.done.result) = [.mounted] ∧ (after (.placeCompletion 0x300) x).seq.hand = .empty ∧
      (after (.placeCompletion 0x302) x).prm.list.map (fun e => (e.kind, e.fields.drive)) = [(.slotOccupied, some 6)] := by decide +kernel
/-- R135: "AB0042" matches and the wanted ring is checked; "AB0043" does not match. -/
theorem test_label :
    let x := serving .label .request (some .readLabel)
    (after (.readLabelCompletion 0x400 0 0x4142 0x3030 0x3432) x).seq.cmd.map (·.cmd) = some .ringCheck ∧
      (after (.readLabelCompletion 0x400 0 0x4142 0x3030 0x3433) x).prm.list.map (·.kind) = [.serialMismatch] := by decide +kernel
theorem test_ring :
    let x := serving .ring .request (some .ringCheck)
    (after (.ringCheckCompletion 0x500 1) x).seq.record.map (·.stage) = some .toDrive ∧
      (after (.ringCheckCompletion 0x500 0) x).seq.record.map (·.stage) = some .detourTravel := by decide +kernel
/-- 7.11: the gripper found empty after a PLACE that timed out: COMPLETING, and DONE MOUNTED with assisted clear. -/
def timedOut : Station :=
  let x := serving .placing .request (some .report)
  { x with seq := { x.seq with fault := some ⟨.place reel.drive, .stage, none, some .retry, false, false, false⟩ },
           span := { x.span with own := some ⟨21500, 22700, .fixed, false⟩, rest := some 22100 } }
theorem test_report :
    let t := after (.reportCompletion 0x600 22100 0) timedOut
    t.seq.fault = none ∧ t.seq.hand = .empty ∧ t.span.own = some ⟨21500, 22700, .parked, false⟩ ∧
      t.seq.doneList.map (fun d => (d.done.result, d.done.assisted)) = [(.mounted, false)] ∧
      (after (.reportCompletion 0x600 22100 1) timedOut).seq.cmd.map (fun f => (f.cmd, f.timer)) = some (.place reel.drive, 800) := by decide +kernel
theorem test_timeout :
    let x := serving .placing .request (some (.place reel.drive))
    let t := after .commandTimeout { x with seq := { x.seq with cmd := x.seq.cmd.map fun f => { f with timer := 0 } } }
    t.seq.fault.map (·.cmd) = some (.place reel.drive) ∧ t.seq.cmd = none ∧ t.span.own = some ⟨15400, 16600, .fixed, false⟩ ∧
      t.prm.list.map (fun e => (e.kind, e.level, e.fields.tag)) = [(.carriageFault, .urgent, some ⟨42, 17⟩)] ∧ t.prm.beacon = true := by decide +kernel
def stopping : Station := { travels with seq := { travels.seq with
  cmd := some ⟨.travel 12000, .stage, 650, some ⟨true, false, false⟩, false⟩, stop := some ⟨100, .travel 12000, .stage⟩ } }
theorem test_stop : (after (.stopCompletion 0x700) stopping).seq.stop = none ∧ (after (.stopCompletion 0x704) stopping).seq.fault.isSome = true ∧
    (after (.travelCompletion 0x103) stopping).seq.posKnown = false := by decide +kernel
/-- R145: the release REPORT stopped for the door has not completed OK. -/
theorem test_release_stopped :
    let x := { timedOut with seq := { timedOut.seq with
      doorLatch := true
      cmd := some ⟨.report, .check, 90, some ⟨true, false, false⟩, false⟩
      fault := some ⟨.place reel.drive, .stage, none, some .retry, true, false, false⟩ } }
    (after (.reportCompletion 0x603 0 0) x).prm.list.map (·.kind) = [.carriageFault] ∧
      (after (.reportCompletion 0x603 0 0) x).seq.fault.map (·.cmd) = some .report := by decide +kernel
/-- R143: the request of a READ-LABEL in flight is done elsewhere; its label is no business of the request served next. R96, R143: STOP for
the TRAVEL of a request done elsewhere. -/
theorem test_dropped :
    let gone (st : Stage) (h : Hand) (c : Command) := after .done (handed (serving st h (some c)) false ((Msg.done mounted).frame 3 63))
    let next := { gone .label .empty .readLabel with seq := { (gone .label .empty .readLabel).seq with record := some (record .label) } }
    (gone .label .empty .readLabel).seq.record = none ∧
      (after (.readLabelCompletion 0x400 0 0x4142 0x3030 0x3433) next).prm.list = [] ∧
      (gone .toSource .empty (.travel 14350)).seq.stop = some ⟨100, .travel 14350, .stage⟩ ∧
      (gone .toSource .empty (.travel 14350)).seq.cmd.map (·.causes) = some (some ⟨false, false, true⟩) := by decide +kernel
/-- R147, R151: RELEASE with the request's reel in the gripper: DONE ABANDONED, and the reel is a reel of no request. -/
theorem test_release :
    let x := { serving .toDrive .request none with seq := { (serving .toDrive .request none).seq with
      fault := some ⟨.travel 22100, .stage, none, some .release, false, false, false⟩ } }
    let t := after .tick x
    t.seq.hand = .orphan ∧ t.seq.record = none ∧ t.seq.doneList.map (·.done.result) = [.abandoned] ∧
      t.seq.cmd.map (·.cmd) = some .report := by decide +kernel
/-- R114, R115, R143: a request dropped in GRANTED; when the grant is then lost, its move is given up. -/
theorem test_dropped_in_granted :
    let x := serving .toSource .empty (some (.travel 12000))
    let y := { x with span := { asks.span with reservation := .granted } }.dropRequest ⟨42, 17⟩
    y.span.reservation = .granted ∧ y.span.move = some ⟨12000, .dropped⟩ ∧ y.loseGrant.span.reservation = .parked ∧
      y.loseGrant.span.move = none ∧ y.loseGrant.span.own = some ⟨11400, 16600, .fixed, false⟩ := by decide +kernel
/-- R150: a TRAVEL stopped for the door is resumed through a fresh reservation, even at its target. -/
theorem test_travel_resumed :
    let x := serving .toSource .empty none
    let y := { x with seq := { x.seq with pos := some 14350, resume := some (.travel 14350, .stage), doorReportOwed := true },
                      span := { x.span with rest := some 14350, own := some ⟨13750, 14950, .parked, false⟩ } }
    let t := after (.reportCompletion 0x600 14350 0) (after .tick y)
    t.span.reservation = .asking ∧ t.span.move = some ⟨14350, .stage⟩ ∧ t.seq.cmd = none ∧ t.seq.resume = none := by decide +kernel
theorem test_repost : (after .doneRepostTimer (onSeq fun q => { q with doneList := [⟨mounted, some 0⟩] })).liu.txq.map (·.frame.kind) = [0x23] ∧
    (after .doneRepostTimer (onSeq fun q => { q with doneList := [⟨mounted, some 0⟩] })).seq.doneList = [⟨mounted, none⟩] := by decide +kernel
/-- R108, R119 to R122: with the carriage free the nudge is moved for, and the Sequencer's own waiting move gives way. -/
theorem test_nudge_served :
    let t := after .tick (onSpan fun p => { p with
      rest := some 12000, own := some ⟨11400, 12600, .parked, false⟩
      reservation := .waiting, move := some ⟨9000, .home⟩, waitTimer := some 300, held := [⟨true, 11800, 1⟩] })
    t.span.reservation = .asking ∧ t.span.move = some ⟨12400, .nudge⟩ ∧ t.span.own = some ⟨11400, 13000, .moving, false⟩ ∧
      t.span.held = [] := by decide +kernel
/-- R148: an opening latches, stops the command and holds the span; R149: index k waits k seconds. -/
theorem test_door_open : (after .doorOpen travels).seq.doorLatch = true ∧ (after .doorOpen travels).seq.stop.isSome = true ∧
    (after .doorOpen travels).seq.door.timer = some 200 ∧ (after .doorOpen travels).span.own = some ⟨11400, 16600, .fixed, false⟩ := by decide +kernel
theorem test_door_close : (after .doorClose { five with pins := { on with door := true } }).pins.door = false := by decide +kernel
theorem test_door_raise :
    (after .doorRaiseTimer (onSeq fun q => { q with doorLatch := true, door := { q.door with timer := some 0 } })).prm.list.map (·.kind) =
      [.doorOpen] ∧
    (after .doorRaiseTimer (onSeq fun q => { q with doorLatch := true, door := { q.door with timer := some 0, heard := true } })).prm.list = [] := by
  decide +kernel

/-! ### Prompts (8.10) -/

def list3 : List PromptEntry := [prompt 12 (.cleanDue) false 5000, prompt 13 .requestWaiting false 5010, prompt 14 .cellEmpty true 5015]
def clock (n : Nat) (x : Station) : Station := { x with ctl := { x.ctl with second := n } }
/-- 15: CELL-EMPTY preempts CLEAN-DUE, with its PROMPT-CLEAR first. -/
theorem test_raise :
    let t := (Station.raise (onPrm fun p => { p with nextNum := 14, list := [prompt 12 .cleanDue true 5000, prompt 13 .requestWaiting false 5010] })
      .cellEmpty ⟨some ⟨42, 17⟩, some reel.volume, some 14350, none, none⟩).1
    t.prm.list.map (fun e => (e.num, e.shown)) = [(12, false), (13, false), (14, true)] ∧
      t.liu.txq.map (fun e => (e.frame.kind, e.frame.body.take 2)) = [(0x42, [12, 2]), (0x41, [14, 1])] := by decide +kernel
/-- 18: a REPLY for the QUEUED number 12 is late. 100: RETRY for 14 has it leave the list. -/
theorem test_reply : (after .reply (handed (listed list3) false (from_ 60 (.reply 5 12 .cont)))).liu.counters.lateReplies = 1 ∧
    (after .reply (handed (listed list3) false (from_ 60 (.reply 5 12 .cont)))).prm.list = list3 ∧
    (after .reply (handed (listed list3) false (from_ 60 (.reply 5 14 .retry)))).liu.txq.map (fun e => (e.frame.kind, e.frame.body.take 2)) =
      [(0x42, [14, 0]), (0x41, [12, 11])] := by decide +kernel
/-- R98: RELEASE to STATION-SILENT is a rescan point though no entry returned: the HEARD call is offered on. -/
theorem test_silent_release :
    let x := { worked heardE with
      prm := { five.prm with list := [{ prompt 9 .stationSilent true 5000 with fields := ⟨none, none, none, none, some 7⟩ }] }
      span := { (worked heardE).span with silent := [⟨7, none, false, true, some 9⟩] } }
    seen (after .reply (handed x false (from_ 60 (.reply 5 9 .release)))) = some (.bidding, .window) ∧
      seen (after .reply (handed x false (from_ 60 (.reply 5 9 .cont)))) = some (.heard, .window) := by decide +kernel
/-- 30: entry 12 expires without a frame. -/
theorem test_expiry : (after .promptExpiry (clock 5030 (listed list3))).prm.list.map (·.num) = [13, 14] ∧
    (after .promptExpiry (clock 5030 (listed list3))).liu.txq = [] ∧ (after .promptExpiry (clock 5029 (listed list3))).prm.list = list3 := by
  decide +kernel
/-- 75: entry 14 escalates, is stated again, and BEACON is driven. -/
theorem test_escalation :
    let t := after .promptEscalation (clock 5075 (listed (list3.drop 2)))
    t.prm.list.map (·.level) = [.urgent] ∧ t.prm.beacon = true ∧ t.liu.txq.map (·.frame.body.take 3) = [[14, 1, 2]] := by decide +kernel
/-- Its echo sets the re-send second 20 s on; 95: it is stated again. -/
def urgent14 : Station := clock 5075 (listed [{ prompt 14 .cellEmpty true 5015 with level := .urgent, fields := ⟨some ⟨42, 17⟩, some reel.volume, some 14350, none, none⟩ }])
theorem test_prompt_echo :
    (after .prompt (handed urgent14 true ((Msg.prompt ⟨14, .cellEmpty, .urgent, ⟨some ⟨42, 17⟩, some reel.volume, some 14350, none, none⟩⟩).frame 5 63))).prm.list.map
      (fun e => (e.heard, e.resend)) = [(true, some 5095)] := by decide +kernel
theorem test_prompt_peer :
    (after .prompt (handed (table [entry .heard .none none none none] [] none) false
      (peer (.prompt ⟨3, .requestWaiting, .notice, ⟨some ⟨42, 17⟩, some reel.volume, none, none, none⟩⟩)))).req.table.map (·.noticed) = [true] := by
  decide +kernel
theorem test_clear : (after .promptClear (handed (onPrm fun p => { p with clears := [⟨14, .answered, .none⟩, ⟨12, .preempted, .none⟩] }) true
    ((Msg.clear 14 .answered).frame 5 63))).prm.clears = [⟨12, .preempted, .none⟩] := by decide +kernel
/-- R13, R14, R21, R165: of two like PROMPT-CLEARs the one dropped at a posting is the newest, the one whose attempts are used up the oldest;
both dropped, both are marked. -/
theorem test_clear_dropped :
    let x := onPrm fun p => { p with clears := [⟨12, .preempted, .none⟩, ⟨12, .preempted, .none⟩] }
    let f := (Msg.clear 12 .preempted).frame 5 63
    (x.reportDrop f []).prm.clears.map (·.drop) = [.none, .dropped] ∧ (x.reportDrop f [f]).prm.clears.map (·.drop) = [.dropped, .none] ∧
      ((x.reportDrop f [f]).reportDrop f []).prm.clears.map (·.drop) = [.dropped, .dropped] := by decide +kernel
/-- R164, R165: at the next advance both frames are posted again, the PROMPT at the level the entry has then. -/
theorem test_reposted :
    let x := onPrm fun p => { p with
      list := [{ prompt 14 .cellEmpty true 5000 with level := .urgent, heard := true, drop := .dropped }]
      clears := [⟨12, .answered, .dropped⟩, ⟨14, .preempted, .dropped⟩, ⟨11, .expired, .none⟩] }
    let t := after .secondsAdvance { x with ctl := { x.ctl with tick := 99 } }
    t.liu.txq.map (fun e => (e.frame.kind, e.frame.body.take 3)) = [(0x41, [14, 1, 2]), (0x42, [12, 0])] ∧
      t.prm.clears = [⟨11, .expired, .none⟩, ⟨12, .answered, .none⟩] := by decide +kernel
theorem test_resend :
    (after .promptResend (clock 5095 (onPrm fun p => { p with list := [{ prompt 14 .cellEmpty true 5015 with level := .urgent, resend := some 5095 }] }))).liu.txq.map
      (·.frame.kind) = [0x41] := by decide +kernel

/-- 8.11: HAND-LOADED displaces the oldest general NOTICE, CLEAN-DUE for drive 4, and preempts CELL-EMPTY. -/
theorem test_full_group :
    let x := onPrm fun p => { p with nextNum := 7, list := [prompt 0 .cellEmpty true 5000, prompt 1 .stationSilent false 5000,
      { prompt 2 .cleanDue false 5000 with fields := ⟨none, none, none, some 4, none⟩ }, prompt 3 .railBlocked false 5000,
      { prompt 4 .cleanDue false 5000 with fields := ⟨none, none, none, some 11, none⟩ }, prompt 5 .accountsFull false 5000,
      prompt 6 .stationSilent false 5000] }
    let t := (x.raise .handLoaded ⟨none, none, some 16000, none, none⟩).1
    t.prm.list.map (fun e => (e.num, e.shown)) = [(0, false), (1, false), (3, false), (4, false), (5, false), (6, false), (7, true)] ∧
      t.liu.txq.map (fun e => (e.frame.kind, e.frame.body.take 2)) = [(0x42, [0, 2]), (0x41, [7, 7])] ∧ t.prm.beacon = true := by decide +kernel

/-! ### Accounts (9.9) -/

def slots99 : List Slot := [⟨some 311, 12, 5, 2, 40200⟩, ⟨some 87, 3, 0, 1, 9000⟩, ⟨some 1204, 1, 1, 0, 600⟩] ++ List.replicate 60 ⟨none, 0, 0, 0, 0⟩
def closing : Station := onStore fun t =>
  { t with table := { t.table with slots := slots99 }, drives := t.drives.set 6 ⟨140, 39⟩, occupancy := [⟨2, 311, 3200⟩], period := 6,
           storeLost := false, closeBusy := true, closing := ⟨7, 10, 0xFFFF, false⟩ }
/-- Tick 10: 1,800 seconds wait for account 311. Tick 30: the mount joins the pending list and CLEAN-DUE is raised. -/
theorem test_close_dones :
    let d2 : Done := ⟨⟨44, 1⟩, .demount, .returned, 2, reel.volume, 311, false, false⟩
    let d6 : Done := ⟨⟨42, 18⟩, .mount, .mounted, 6, reel.volume, 87, true, false⟩
    (after .done (handed closing false ((Msg.done d2).frame 3 63))).store.pendingIncs = [.occupancy 311 1800] ∧
      (closing.accountDone true d6).store.pendingIncs = [.mount 87 true false] ∧ (closing.accountDone true d6).store.drives[6]? = some ⟨141, 40⟩ ∧
      (closing.accountDone true d6).prm.list.map (fun e => (e.kind, e.fields.drive)) = [(.cleanDue, some 6)] := by decide +kernel
/-- Tick 64: the snapshot is held, the pending list is applied to the cleared table, TALLY CLOSED of period 7 is posted. -/
theorem test_close :
    let x := { closing with store := { closing.store with closing := ⟨7, 63, 0, true⟩, pendingIncs := [.occupancy 311 1800, .mount 87 true false] } }
    let t := after .closeComplete x
    t.store.period = 7 ∧ t.store.snapHeld = true ∧ t.store.closeBusy = false ∧
      t.store.table.slots.take 3 = [⟨some 311, 0, 0, 0, 1800⟩, ⟨some 87, 1, 1, 0, 0⟩, ⟨none, 0, 0, 0, 0⟩] ∧
      t.liu.txq.map (·.frame.body) = [[0, 7, 0x49, 0]] := by decide +kernel
def held : Station := onStore fun t => { t with period := 7, storeLost := false, snapHeld := true, snapshot := ⟨slots99 ++ [⟨some 4095, 0, 0, 0, 0⟩], 7, 0⟩ }
/-- The answers of the example: slots 0 to 3 in 48 bytes, slot 3 as account 65535; PERIOD-CLOSE 8 refused with period 7; TALLY-TAKEN 7. -/
theorem test_tally_ask :
    let b := (after .tallyAsk (handed held false (from_ 61 (.tallyAsk .closed 0 4)))).liu.txq.map (·.frame.body)
    b.map List.length = [48] ∧ b.map (fun b => (b.take 15).drop 4) = [[1, 0x37, 0, 12, 0, 5, 0, 2, 0, 0x9D, 0x08]] ∧
      b.map (List.drop 37) = [[255, 255, 0, 0, 0, 0, 0, 0, 0, 0, 0]] := by decide +kernel
theorem test_period_close : (after .periodClose (handed held false (from_ 61 (.periodClose 8)))).liu.txq.map (·.frame.body.take 2) = [[0, 7]] ∧
    (after .periodClose (handed held false (from_ 61 (.periodClose 8)))).store.closeBusy = false ∧
    (after .periodClose (handed five false (from_ 61 (.periodClose 7)))).store.closing = ⟨7, 0, 0xFFFF, false⟩ := by decide +kernel
theorem test_taken : (after .tallyTaken (handed held false (from_ 61 (.tallyTaken 7)))).store.snapHeld = false ∧
    (after .tallyTaken (handed held false (from_ 61 (.tallyTaken 6)))).store.snapHeld = true := by decide +kernel
/-- 9.9, last paragraph: a restart at tick 40 of the close. -/
theorem test_close_cut :
    let t := { closing.store with pendingIncs := [.occupancy 311 1800, .mount 87 true false], occupancy := [⟨6, 87, 5000⟩] }.kept
    t.table.slots.take 2 = [⟨some 311, 12, 5, 2, 42000⟩, ⟨some 87, 4, 1, 1, 9000⟩] ∧ t.period = 6 ∧ t.occLost = 1 ∧ t.closeBusy = false := by
  decide +kernel
def tallyMsg : TallyMsg := ⟨7, .closed, .closed, ⟨false, false, true, false⟩, 0, []⟩
theorem test_tally : (after .tally (handed five false (peer (.tally tallyMsg)))) = five := by decide +kernel

/-- 3.2: the answer of the second example's station: OFFLINE, GEOMETRY-BAD, order index 255. -/
theorem test_status_ask :
    let x := after (.configReadComplete (block 8 2600 500 20500)) started
    (after .statusAsk (handed x false (from_ 60 .statusAsk))).liu.txq.map (·.frame.body.take 4) = [[4, 0, 2, 255]] := by decide +kernel
theorem test_status : after .status (handed five false (peer (.status five.statusBody))) = five := by decide +kernel
theorem test_restart : (after .restart (handed five false (from_ 60 .restart))).ctl.mode = .reset ∧
    (after .restart (handed five false (from_ 60 .restart))).ctl.cause = .restart := by decide +kernel

/-! ## The statements' hypotheses are met: a state and operands for each clause, at the ends of the ranges -/

theorem witness_StepRunsFrontCommand : (⟨five, [.tick, .doorOpen]⟩ : State).pending = .tick :: [.doorOpen] := rfl

def badOffer : Frame := peer (.offer ⟨42, 17⟩ 0 1)
theorem witness_EndOfEventAndHandingOut : (travels.Quiet ∧ travels.liu.access ≠ .gapWait) ∧
    ((handed five false badOffer).liu.running = true ∧ (handed five false badOffer).liu.rxq = ⟨badOffer, false⟩ :: [] ∧
      accept (handed five false badOffer).cv.n badOffer = none) ∧
    ((onCtl fun c => { c with mode := .offline }).ctl.mode ≠ .ready ∧ (onCtl fun c => { c with mode := .offline }).ctl.mode ≠ .learning) := by
  unfold Station.Quiet; decide +kernel

def longest : Frame := ⟨0x52, 69, 61, List.replicate 48 0⟩
theorem witness_SentFrameAssembles : longest.body.length ≤ 48 ∧ (List.replicate 8 true).length = 8 ∧
    (List.replicate 13 false ++ [true]).length = 14 := by decide

def waiting (n : Nat) : Station := onLiu fun l => { l with access := .slotWait n, txq := [queued 0x21] }
def gap (kind : Byte) (k : Nat) : Station := { receiving k with liu := { (receiving k).liu with access := .gapWait, txq := [queued kind] } }
theorem witness_LineAndReceiverEvents :
    (five.liu.running = true ∧ (∀ c, readChar [false] ≠ .char c) ∧ (∀ c, readChar [true] ≠ .char c)) ∧
    ((receiving 0).liu.receiver = .header [] ∧ (48#8).toNat ≤ 48 ∧ (inFrame (.header [1]) 0).liu.receiver = .header [1] ∧
      1 ≤ [1#8].length ∧ [1#8, 2].length ≤ 2 ∧ [1#8, 2, 3].length = 3 ∧ (inFrame (.body [0, 2, 3, 4]) 0).liu.receiver = .body (0 :: [2, 3, 4]) ∧
      [2#8, 3, 4].length < (0#8).toNat + 4) ∧
    ((gap 0x21 3).liu.running = true ∧ (gap 0x21 3).liu.access ≠ .sending ∧ (gap 0x21 3).liu.access ≠ .breaking ∧
      (gap 0x21 3).liu.txq = queued 0x21 :: [] ∧ (gap 0x21 3).liu.access = .gapWait ∧ (gap 0x21 3).liu.rxq.length ≤ 3) ∧
    ((gap 0x31 3).liu.txq = queued 0x31 :: [] ∧ (queued 0x31).frame.urgent = true ∧ 4 ≤ (gap 0x31 4).liu.rxq.length ∧ five.liu.txq = []) ∧
    (five.liu.receiver = .hunt ∧ [0x96#8, 0x96#8].foldl huntChar five.liu.receiver = .sync ∧ [].foldl huntChar Receiver.sync = .sync) ∧
    (49 ≤ (49#8).toNat ∧ readChar errorLevels = .framingError ∧ readChar breakLevels = .lineBreak ∧ readChar [] ≠ .framingError ∧
      readChar errorLevels ≠ .lineBreak) := by
  refine ⟨⟨by decide +kernel, fun c h => (by cases h), fun c h => (by cases h)⟩, by decide +kernel⟩

theorem witness_FrameReceivedAndUnknownKind :
    ((receiving 3).liu.running = true ∧ (receiving 3).liu.receiver = .header [] ∧ (receiving 3).liu.access ≠ .sending ∧
      (receiving 3).liu.rxq.length = 3 ∧ (receiving 4).liu.rxq.length = 4 ∧ longest.chars = [] ++ longest.chars ∧ longest.chars ≠ []) ∧
    ((inFrame (.header (longest.chars.take 3)) 0).liu.receiver = .header (longest.chars.take 3) ∧ (longest.chars.take 3).length = 3 ∧
      longest.chars = longest.chars.take 3 ++ longest.chars.drop 3) ∧
    ((inFrame (.body (longest.chars.take 53)) 0).liu.receiver = .body (longest.chars.take 53) ∧ ¬ (longest.chars.take 53).length ≤ 3 ∧
      longest.chars = longest.chars.take 53 ++ longest.chars.drop 53 ∧ (longest.chars.drop 53).length = 1) ∧
    (longest.body.length ≤ 48 ∧ (0#16) ≠ crc longest.covered ∧
      longest.covered ++ [((0#16) >>> 8).truncate 8, (0#16).truncate 8] = [] ++ (longest.covered ++ [0, 0])) ∧
    ((handed five false ⟨0x24, 69, 63, []⟩).liu.rxq = ⟨⟨0x24, 69, 63, []⟩, false⟩ :: [] ∧ (0x24#8) ∉ knownKinds) := by decide +kernel

def sends (l : List TxEntry) (h : Option Frame) : Station := onLiu fun u =>
  { u with access := .sending, txq := l, heldSpan := h, rxq := List.replicate 3 ⟨peer (.nudge false 1 1), false⟩ }
def spanFrame : Frame := (Msg.span 2 .moving 1 2 false false).frame 5 63
def hit (kind : Byte) (n : Nat) : TxEntry := { queued kind with collisions := n, collided := true }
theorem witness_SendingAndCollision :
    ((waiting 9).liu.running = true ∧ (waiting 9).liu.txq = queued 0x21 :: [] ∧ (waiting 9).liu.access = .slotWait 9) ∧
    ((sends [queued 0x31, queued 0x23] (some spanFrame)).liu.access = .sending ∧ (queued 0x31).frame.isSpan = true ∧
      (sends [queued 0x31, queued 0x23] (some spanFrame)).liu.heldSpan = some spanFrame) ∧
    -- a NORMAL frame in transmission, with an URGENT one posted behind it
    (let e := { queued 0x21 with collisions := 7 }
     e.frame.isSpan = false ∧ e.collisions < 8 ∧ [queued 0x22, queued 0x23] = [queued 0x22] ++ [queued 0x23] ∧
      (∀ x ∈ [queued 0x22], x.frame.urgent = true ∧ e.frame.urgent = false) ∧ (queued 0x23).frame.urgent = false) ∧
    -- an URGENT one
    ((queued 0x22).frame.isSpan = false ∧ (queued 0x22).frame.urgent = true ∧ [queued 0x23] = [] ++ [queued 0x23]) := by decide +kernel

def broke (n : Nat) : Station := onLiu fun u => { u with access := .breaking, txq := [queued 0x22] ++ hit 0x21 n :: [queued 0x23] }
theorem witness_BreakEndAndHeardBack :
    ((broke 7).liu.running = true ∧ (broke 7).liu.access = .breaking ∧ (broke 7).liu.txq = [queued 0x22] ++ hit 0x21 7 :: [queued 0x23] ∧
      (hit 0x21 7).collided = true ∧ (∀ x ∈ [queued 0x22], x.collided = false) ∧ (hit 0x21 7).collisions < 8) ∧
    ((broke 8).liu.txq = [queued 0x22] ++ hit 0x21 8 :: [queued 0x23] ∧ 8 ≤ (hit 0x21 8).collisions ∧ (hit 0x21 8).frame.isSpan = false) ∧
    (let x := sends [queued 0x21] none
     x.liu.running = true ∧ x.liu.access = .sending ∧ x.liu.txq = queued 0x21 :: [] ∧ x.liu.rxq.length ≤ 3 ∧ x.liu.heldSpan = none) ∧
    (let x := sends [queued 0x31, queued 0x22, queued 0x23] (some spanFrame)
     (queued 0x31).frame.isSpan = true ∧ x.liu.heldSpan = some spanFrame ∧ spanFrame.isSpan = true ∧
      [queued 0x22, queued 0x23] = [queued 0x22] ++ [queued 0x23] ∧ (∀ y ∈ [queued 0x22], y.frame.urgent = true) ∧
      (queued 0x23).frame.urgent = false) ∧
    -- a drop report: none posted since, and one posted since; each record there and not there
    (stationAddr 24 = true ∧ stationAddr 63 = false ∧ (63 = 60 ∨ 63 = 61 ∨ 63 = 63) ∧ ciuAddr 42 = true ∧ 17 ≤ 255 ∧
      (let m := Msg.offer ⟨42, 17⟩ 65535 2
       ∃ g ∈ [m.frame 24 63], g.kind = m.code ∧ g.dst = byteOf 63 ∧ (m.code = 0x32#8 ∨ g.body.take 2 = m.body.take 2)) ∧
      (let m := Msg.nudge true 0 2
       (∃ g ∈ [Msg.frame (.nudge false 9 2) 24 3], g.kind = m.code ∧ g.dst = byteOf 3) ∧ ¬ ∃ g ∈ [Msg.frame (.nudge false 9 2) 24 9], g.dst = byteOf 3) ∧
      (worked taking).req.find ⟨42, 17⟩ = some taking ∧ taking.state = .taking ∧ (881 ≠ 0) ∧ (worked bidding).req.find ⟨42, 17⟩ = some bidding ∧
      bidding.state ≠ .taking) ∧
    (let l := [⟨mounted, some 3⟩, (⟨mounted, none⟩ : DoneRecord)]
     l = [⟨mounted, some 3⟩] ++ ⟨mounted, none⟩ :: [] ∧ (∀ r ∈ [(⟨mounted, some 3⟩ : DoneRecord)], r ≠ ⟨mounted, none⟩) ∧
      resultAllowed mounted.kind mounted.result = true ∧ serialOk mounted.volume = true ∧ mounted.account ≤ 4094 ∧
      asks.span.reservation = .asking ∧ five.span.reservation ≠ .asking ∧ (255 ≤ 255)) := by decide +kernel

def full (kinds : List Byte) : Liu := { five.liu with txq := kinds.map queued }
/-- A computed reading of the sending order. -/
def sorted : List TxEntry → Bool
  | [] => true
  | x :: xs => (x.frame.urgent || xs.all fun y => !y.frame.urgent) && sorted xs

theorem classOrdered_of : ∀ {l : List TxEntry}, sorted l = true → classOrdered l
  | [], _ => trivial
  | x :: xs, h => by
    simp only [sorted, Bool.and_eq_true, Bool.or_eq_true, List.all_eq_true, Bool.not_eq_true'] at h
    exact ⟨fun hx y hy => h.1.elim (fun hu => by rw [hx] at hu; cases hu) fun ha => ha y hy, classOrdered_of h.2⟩

theorem witness_PostingAndWithdrawal :
    ((full [0x22, 0x22, 0x21, 0x23, 0x23]).ordered ∧ (full [0x22, 0x22, 0x21, 0x23, 0x23]).txq.length ≤ 5) ∧
    ((full [0x22, 0x22, 0x21, 0x23, 0x23, 0x23]).ordered ∧ (full [0x22, 0x22, 0x21, 0x23, 0x23, 0x23]).txq.length = 6 ∧
      (full [0x22, 0x22, 0x21, 0x23, 0x23, 0x23]).txq = [0x22, 0x22, 0x21, 0x23, 0x23].map queued ++ [queued 0x23] ∧
      (queued 0x21).frame.urgent = false ∧ (queued 0x32).frame.urgent = true) ∧
    ((full (List.replicate 6 0x22)).ordered ∧ (full (List.replicate 6 0x22)).txq = (List.replicate 5 (queued 0x22)) ++ [queued 0x22]) ∧
    ((sends [queued 0x31] none).liu.spanInTransmission = true ∧ five.liu.spanInTransmission = false ∧
      ((full [0x31, 0x23]).txq.filter fun e => e.frame.isSpan).length ≤ 1) :=
  ⟨⟨classOrdered_of (by decide +kernel), by decide⟩, ⟨classOrdered_of (by decide +kernel), by decide +kernel⟩,
    ⟨classOrdered_of (by decide +kernel), by decide +kernel⟩, by decide +kernel⟩

def ran (c : Instr) (x : Station) : State := ⟨x, [c]⟩
theorem witness_QueueMovesTheAccess :
    (five.liu.access = .idle ∧ five.liu.txq = []) ∧
    ((waiting 4).liu.access = .slotWait 4 ∧ (waiting 4).liu.txq = queued 0x21 :: [] ∧ (queued 0x22).frame.urgent = true ∧
      (queued 0x21).frame.urgent = false ∧ (waiting 4).liu.txq.length ≤ 5) ∧
    ((gap 0x21 0).liu.access = .gapWait ∧ (sends [queued 0x23] none).liu.access = .sending) ∧
    (let l := { (waiting 4).liu with txq := [queued 0x31, queued 0x23] }
     l.spanInTransmission = false ∧ l.txq = [] ++ queued 0x31 :: [queued 0x23] ∧ (queued 0x31).frame.isSpan = true ∧ l.access = .slotWait 4) ∧
    ((full [0x22, 0x31]).spanInTransmission = false ∧ (full [0x22, 0x31]).txq = [queued 0x22] ++ queued 0x31 :: [] ∧ [queued 0x22] ≠ [] ∧
      ∀ u ∈ [queued 0x22], u.frame.isSpan = false) ∧
    ((gap 0x31 0).liu.access = .gapWait ∧ (gap 0x31 0).liu.txq = [queued 0x31]) := by decide +kernel

theorem witness_EveryStepKeepsTheLiu : (ran .gapEnd (gap 0x21 3)).station.liu.Ok ∧ ∃ t, step (ran .gapEnd (gap 0x21 3)) = .next t :=
  ⟨⟨by decide, by decide, classOrdered_of (by decide +kernel), by decide, fun f h => (by cases h), by decide +kernel⟩, _, rfl⟩

theorem witness_SentMessageIsAccepted : 8 ≤ 8 ∧ stationAddr 24 = true ∧ DestOk 63 ∧ (Msg.offer ⟨47, 255⟩ 65534 7).Sendable 8 ∧
    (Msg.take ⟨40, 0⟩ 0 7 true).Sendable 8 ∧ (Msg.done mounted).Sendable 8 ∧ (Msg.span 7 .fixed 65535 65535 true true).Sendable 8 ∧
    (Msg.nudge true 65535 0).Sendable 8 ∧ (Msg.prompt ⟨255, .stationSilent, .urgent, ⟨none, none, none, none, some 24⟩⟩).Sendable 8 ∧
    (Msg.clear 255 .withdrawn).Sendable 8 ∧ (Msg.tally tallyMsg).Sendable 8 ∧ (Msg.status five.statusBody).Sendable 8 := by
  simp only [DestOk, Msg.Sendable, Tag.Ok, Done.Ok, PromptMsg.Ok]; decide +kernel

theorem witness_OutsideMessageIsAccepted : DestOk 5 ∧ reel.Ok ∧ back.Ok ∧ stationAddr 24 = true ∧ 8 ≤ (if Which.drives = .drives then 8 else 4) := by
  simp only [DestOk, Call.Ok, Tag.Ok, Place.Ok]
  refine ⟨by decide, ?_, ?_, by decide⟩
  · exact ⟨by decide, by decide, by decide, by decide, by decide, by decide, rfl, ⟨14350, true, 3, false⟩, rfl, by decide⟩
  · exact ⟨by decide, by decide, by decide, by decide, by decide, by decide, rfl, rfl, ⟨14350, true, 3, false⟩, rfl, by decide⟩

theorem witness_ResetsStartsAndSupplyLoss : ((stopped { on with vdd := false }).pins.vdd = false ∧ (stopped { on with vdd := false }).pins.vbak = true ∧
    five.pins.vdd = true ∧ five.pins.vbak = true) ∧ (stopped on).pins.vdd = true ∧ (stopped on).ctl.mode = .reset ∧
    closing.store.closeBusy = true ∧ five.store.closeBusy = false := by decide +kernel

theorem witness_ConfigBlockIsRead :
    (let b := (block 4 600 500 40500).set 31 0
     started.ctl.mode = .config ∧ b.length = 32 ∧ (b.map BitVec.toNat).sum % 256 ≠ 0) ∧
    (let b := (block 9 600 500 40500); b.length = 32 ∧ ¬ (2 ≤ blockByte b 1 ∧ blockByte b 1 ≤ 8)) ∧
    (let b := (block 4 600 40500 40500); b.length = 32 ∧ blockWord b 5 ≤ blockWord b 3) ∧
    (let b := block 4 600 500 40500
     started.ctl.index = none ∧ b.length = 32 ∧ (b.map BitVec.toNat).sum % 256 = 0 ∧ 1 ≤ blockByte b 0 ∧ blockByte b 0 ≤ 24 ∧
      2 ≤ blockByte b 1 ∧ blockByte b 1 ≤ 8 ∧ blockWord b 3 < blockWord b 5 ∧ (4 - 1) * (2 * 600 + 200) ≤ 40500 - 500) ∧
    (let b := block 8 2600 500 20500
     (b.map BitVec.toNat).sum % 256 = 0 ∧ blockByte b 1 ≤ 8 ∧ blockWord b 3 < blockWord b 5 ∧ 20500 - 500 < (8 - 1) * (2 * 2000 + 200)) := by
  decide +kernel

def counting (n : Nat) : Station := { ordering with ctl := { ordering.ctl with armed := true, pulses := n } }
theorem witness_ChainCountsTheBurst : ordering.pins.chainIn = false ∧ ordering.ctl.mode = .ordering ∧ ordering.ctl.armed = false ∧
    (counting 0).ctl.armed = true ∧ (counting 0).ctl.pulses = 0 ∧ (1 ≤ (counting 3).ctl.pulses ∧ (counting 3).ctl.pulses < (counting 3).cv.n) ∧
    (counting 4).cv.n ≤ (counting 4).ctl.pulses := by decide +kernel

theorem witness_OrderIndexIsTaken : ordering.ctl.mode = .ordering ∧
    { ordering with ctl := { ordering.ctl with orderingTimer := some 0 } }.ctl.orderingTimer = some 0 ∧
    five.ctl.mode = .ready ∧ five.ctl.index = some 2 ∧ five.ctl.burstTimer = some (.ticks 0) ∧
    (five.takeIndex 7).ctl.burstTimer = some (.pulseTimes 10) ∧ (five.takeIndex 7).ctl.mode = .learning ∧
    (after .chainOutBurst five).ctl.burstTimer = some (.ticks (99 + 1)) := by decide +kernel

def sixSilent : List PromptEntry := (List.range 6).map fun i => prompt (i + 1) .stationSilent (i == 0) 4100
/-- The end of learning with the door open, a store clear to report, and the general places full or not. -/
def firstReady (door : Bool) (cmd : Option InFlight) (l : List PromptEntry) : Station :=
  { learning with pins := { on with door := door }, seq := { learning.seq with cmd := cmd }, prm := { learning.prm with list := l },
                  store := { learning.store with clearedMemory := true } }
theorem witness_LearningEndsInReady :
    (learning.ctl.mode = .learning ∧ learning.ctl.learningTimer = some 0 ∧ learning.pins.door = false ∧
      learning.store.clearedMemory = false) ∧
    ((firstReady true none []).ctl.mode = .learning ∧ (firstReady true none []).pins.door = true ∧ (firstReady true none []).seq.cmd = none ∧
      (firstReady true none []).store.clearedMemory = true ∧ (firstReady true none []).accStatus .storeLost = .none) ∧
    (let f : InFlight := ⟨.report, .check, 1, none, false⟩
     (firstReady true (some f) []).seq.cmd = some f ∧ f.causes = none ∧ (firstReady true (some f) []).seq.stop = none) ∧
    -- the raise accepted, and refused with six general places full and no NOTICE
    ((Station.raise (firstReady false none []) .storeLost ⟨none, none, none, none, none⟩).2 = some 0 ∧
      (Station.raise (firstReady false none sixSilent) .storeLost ⟨none, none, none, none, none⟩).2 = none ∧
      (Station.callFor (firstReady false none sixSilent) .storeLost).accStatus .storeLost ≠ .none) := by decide +kernel

theorem witness_TimeBaseCounts :
    (five.pins.vdd = true ∧ five.ctl.mode ≠ .reset ∧ (onCtl fun c => { c with tick := 98 }).ctl.tick < 99 ∧
      (onCtl fun c => { c with tick := 99 }).ctl.tick = 99) ∧
    -- a WANTED record, and none
    (let x := five.setAcc (.cleanDue 31) fun r => { r with status := .wanted }
     x.ctl.mode = .ready ∧ x.wantedRaises = [.cleanDue 31]) ∧
    (learning.ctl.mode ≠ .ready ∧ five.ctl.mode = .ready ∧ five.wantedRaises = []) := by decide +kernel
/-- R144, R189: at the second's advance the owed CARRIAGE-FAULT and the WANTED prompt are raised again. -/
theorem test_raised_again :
    let x := (onSeq fun q => { q with fault := some ⟨.report, .check, none, none, false, true, true⟩ }).setAcc .accountsFull fun r =>
      { r with status := .wanted }
    let t := after .secondsAdvance { x with ctl := { x.ctl with tick := 99 } }
    t.prm.list.map (fun e => (e.kind, e.fields.pos)) = [(.carriageFault, some 16000), (.accountsFull, none)] ∧
      t.seq.fault.map (fun f => (f.prompt, f.raiseOwed)) = some (some 0, false) ∧ t.accStatus .accountsFull = .raised 1 := by decide +kernel

/-- R158, R189: at an advance the owed CARRIAGE-FAULT displaces the CLEAN-DUE of drive 31, which stays WANTED until the next
advance: with a place free by then it is raised there. -/
theorem test_displaced_waits :
    let general := (List.range 5).map fun i => prompt (i + 1) .stationSilent (i == 0) 4999
    let x := (onSeq fun q => { q with fault := some ⟨.report, .check, none, none, false, true, true⟩ }).setAcc (.cleanDue 31) fun r =>
      { r with status := .raised 9 }
    let second (y : Station) := after .secondsAdvance { y with ctl := { y.ctl with tick := 99 } }
    let t := second { x with prm := { x.prm with list := prompt 9 .cleanDue false 4999 :: general } }
    let u := second { t with prm := { t.prm with list := t.prm.list.drop 1 } }
    t.prm.list.map (·.kind) = List.replicate 5 .stationSilent ++ [.carriageFault] ∧ t.accStatus (.cleanDue 31) = .wanted ∧
      u.prm.list.map (·.kind) = List.replicate 4 .stationSilent ++ [.carriageFault, .cleanDue] := by decide +kernel

def withPeer : Station := onSpan fun p => { p with peers := [west] }
theorem witness_StatusAndRestart :
    (handed five false (from_ 60 .statusAsk)).Hands ⟨false, 60, five.cv.address⟩ .statusAsk [] ∧
    (handed five false (from_ 60 .restart)).Hands ⟨false, 60, five.cv.address⟩ .restart [] ∧
    (handed five false (peer (.status five.statusBody))).Hands ⟨false, 3, 63⟩ (.status five.statusBody) [] ∧
    (handed five true ((Msg.tally tallyMsg).frame 5 61)).Hands ⟨true, 5, 61⟩ (.tally tallyMsg) [] ∧
    withPeer.ctl.index = some 2 ∧ started.ctl.index = none ∧ withPeer.span.peers.find? (fun p => p.index == 1) = some west ∧
    withPeer.span.peers.find? (fun p => p.index == 7) = none :=
  ⟨hands_of (by decide +kernel), hands_of (by decide +kernel), hands_of (by decide +kernel), hands_of (by decide +kernel), by decide +kernel⟩

theorem witness_BandsTravelAndConflict : (1 ≤ cfg.n ∧ 3 < cfg.n ∧ cfg.railLo ≤ cfg.railHi ∧ (cfg.n - 1) * cfg.D ≤ cfg.railHi - cfg.railLo ∧
    2 + 1 < cfg.n ∧ cfg.inBand 3 (cfg.bandLo 3) = true ∧ cfg.bandLo 3 - 1 < cfg.bandLo 3 ∧ cfg.bandHi 3 < cfg.bandHi 3 + 1) ∧
    (1 ≤ cfg.V ∧ cfg.V = 20 ∧ cfg.R = 25 ∧ cfg.R ≤ 255 ∧ 65535 ≠ 0 ∧ { cfg with V := 1, R := 255 }.V = 1 ∧
      { cfg with V := 1, R := 255 }.R = 255) := by decide

def at3 (kind : SpanKind) (stale : Bool) : PeerSpan := ⟨3, 9, 22300, 23500, kind, 5000, stale⟩
theorem witness_CostOfACall :
    ((worked bidding).cost reel = some (881, 881) ∧ five.committedEnd = some 16000 ∧ (onSpan fun p => { p with rest := none }).committedEnd = none ∧
      five.cv.inBand five.k 39101 = false) ∧
    (five.displaces 14350 22100 (at3 .fixed false) = true ∧ five.displaces 14350 22100 (at3 .parked false) = true ∧
      five.displaces 14350 22100 (at3 .moving false) = true ∧ five.displaces 14350 22100 west = false ∧
      five.k < (at3 .parked true).index ∧ west.index < five.k) ∧
    -- reachable: 16,000, 14,350, 22,100 and the window's 20,000 in band, and no peer displaced; a FIXED one cannot be
    (five.committedEnd = some 16000 ∧ (∀ x ∈ [16000, (five.cv.sourceOf reel).pos, (five.cv.targetOf reel).pos, five.cv.windowPos],
        five.cv.inBand five.k x = true) ∧ five.penalties 14350 22100 five.span.peers = some 0 ∧
      (onSpan fun p => { p with peers := [at3 .fixed false] }).penalties 14350 22100 [at3 .fixed false] = none) ∧
    -- the committed end and the backlog: a request owned; none owned, with a move granted and asked; ACTIVE with 400 of 881 spent
    (let e := { entry .owned .none none none none with estimate := some 881 }
     let x := table [e] [⟨42, 17⟩] (some ⟨42, 17⟩)
     x.req.owned.getLast? = some ⟨42, 17⟩ ∧ x.req.find ⟨42, 17⟩ = some e ∧ x.req.active = some ⟨42, 17⟩ ∧ e.estimate = some 881 ∧
      { x with req := { x.req with elapsed := 400 } }.backlog = 481 ∧ x.committedEnd = some 22100 ∧ five.req.active = none) ∧
    (let x := onSpan fun p => { p with reservation := .granted, move := some ⟨12000, .home⟩ }
     x.req.owned = [] ∧ x.span.reservation = .granted ∧ x.span.move = some ⟨12000, .home⟩ ∧ five.span.reservation ≠ .granted) ∧
    -- a mount from a cell and from the window, a demount to each
    (reel.kind ≠ .demount ∧ reel.source = some ⟨14350, true, 3, false⟩ ∧ { reel with source := some ⟨0, true, 0, true⟩ }.source = some ⟨0, true, 0, true⟩ ∧
      back.kind = .demount ∧ back.ret = some ⟨14350, true, 3, false⟩ ∧ { back with ret := some ⟨0, true, 0, true⟩ }.ret = some ⟨0, true, 0, true⟩) := by
  decide +kernel

def many (k : Nat) (st : EntryState) : List Entry := (List.range k).map fun i =>
  { entry st .none none none none with call := { reel with tag := ⟨40, i⟩ } }
def called (x : Station) : Station := handed x false (from_ 42 (.call reel))
def added (x : Station) : Station := { x with req := { x.req with table := x.req.table ++
  [⟨reel, x.ctl.second, .heard, .window, none, none, none, false, false, none, none, false, false, none⟩] } }
def latched (x : Station) : Station := { x with seq := { x.seq with doorLatch := true } }
theorem witness_CallIsRecorded :
    ((called (worked bidding)).Hands ⟨false, 42, 5⟩ (.call reel) [] ∧ (called (worked bidding)).ctl.mode = .ready ∧
      ∃ o ∈ (called (worked bidding)).req.table, o.call.tag = reel.tag) ∧
    (let x := called (latched (table (many 15 .heard) [] none))
     x.Hands ⟨false, 42, 5⟩ (.call reel) [] ∧ (∀ o ∈ x.req.table, o.call.tag ≠ reel.tag) ∧ x.req.table.length ≤ 15 ∧ ¬ x.seq.doorLatch = false) ∧
    (let x := called (table (many 15 .heard) [] none)
     x.Hands ⟨false, 42, 5⟩ (.call reel) [] ∧ (∀ o ∈ x.req.table, o.call.tag ≠ reel.tag) ∧ x.req.table.length ≤ 15 ∧
      (x.ctl.mode = .ready ∧ x.seq.doorLatch = false ∧ x.seq.fault = none ∧ 1 ≤ (added x).req.capacity) ∧
      (added x).cost reel = some (881, 881)) ∧
    (let x := called (table (many 16 .heard) [] none)
     x.Hands ⟨false, 42, 5⟩ (.call reel) [] ∧ 16 ≤ x.req.table.length ∧ ∀ o ∈ x.req.table, o.state ≠ .peer) ∧
    (let p : Entry := { entry .peer .none none none none with call := { reel with tag := ⟨41, 200⟩ } }
     let x := called (latched (table (many 3 .heard ++ p :: many 15 .peer |>.take 16) [] none))
     x.Hands ⟨false, 42, 5⟩ (.call reel) [] ∧ 16 ≤ x.req.table.length ∧ x.req.table = many 3 .heard ++ p :: many 12 .peer ∧
      (∀ o ∈ many 3 .heard, o.state ≠ .peer) ∧ p.state = .peer ∧ p.prompt = none ∧
      (∀ o ∈ many 3 .heard ++ many 12 .peer, o.call.tag ≠ p.call.tag) ∧ (∀ o ∈ x.req.table, o.call.tag ≠ reel.tag) ∧ ¬ x.fit = true)∧
    -- the same with the door shut: the displacement is followed by an OFFER of 881
    (let p : Entry := { entry .peer .none none none none with call := { reel with tag := ⟨41, 200⟩ } }
     let x := called (table (many 3 .heard ++ p :: many 12 .peer) [] none)
     let z := added { x with req := { x.req with table := many 3 .heard ++ many 12 .peer } }
     x.Hands ⟨false, 42, 5⟩ (.call reel) [] ∧ 16 ≤ x.req.table.length ∧ (∀ o ∈ x.req.table, o.call.tag ≠ reel.tag) ∧
      (x.ctl.mode = .ready ∧ x.seq.doorLatch = false ∧ x.seq.fault = none ∧ 1 ≤ z.req.capacity) ∧ z.cost reel = some (881, 881)) :=
  ⟨⟨hands_of (by decide +kernel), by decide +kernel⟩, ⟨hands_of (by decide +kernel), by decide +kernel⟩,
    ⟨hands_of (by decide +kernel), by decide +kernel⟩, ⟨hands_of (by decide +kernel), by decide +kernel⟩,
    ⟨hands_of (by decide +kernel), by decide +kernel⟩, ⟨hands_of (by decide +kernel), by decide +kernel⟩⟩

def offered (x : Station) : Station := handed x false (peer (.offer ⟨42, 17⟩ 900 1))
def peerE : Entry := entry .peer .none none none (some ⟨3, ⟨1216, 1, false⟩⟩)
def ownedE : Entry := entry .owned .none none none none
def best (e : Entry) : Entry := { e with state := .bidding, phase := .window, best := some ⟨900, 1⟩ }
theorem witness_OfferIsTaken :
    ((offered five).Hands ⟨false, 3, 63⟩ (.offer ⟨42, 17⟩ 900 1) [] ∧ (offered five).ctl.mode = .ready ∧ (offered five).req.find ⟨42, 17⟩ = none) ∧
    (let x := offered (latched (worked heardE))
     x.Hands ⟨false, 3, 63⟩ (.offer ⟨42, 17⟩ 900 1) [] ∧ x.req.find ⟨42, 17⟩ = some heardE ∧ heardE.state = .heard ∧
      (x.updateEntry ⟨42, 17⟩ best).mayOffer = false) ∧
    (let x := offered (worked heardE)
     x.Hands ⟨false, 3, 63⟩ (.offer ⟨42, 17⟩ 900 1) [] ∧ x.req.find ⟨42, 17⟩ = some heardE ∧ heardE.ownOffer = none ∧
      (x.updateEntry ⟨42, 17⟩ best).mayOffer = true ∧ (x.updateEntry ⟨42, 17⟩ best).cost heardE.call = some (881, 881)) ∧
    ((offered (worked bidding)).req.find ⟨42, 17⟩ = some bidding ∧ bidding.state = .bidding) ∧
    ((offered (worked taking)).req.find ⟨42, 17⟩ = some taking ∧ taking.state = .taking) ∧
    ((offered (worked peerE)).req.find ⟨42, 17⟩ = some peerE ∧ peerE.state = .peer ∧ (offered (worked peerE)).ownerStale peerE.owner = false) ∧
    ((offered (worked ownedE)).req.find ⟨42, 17⟩ = some ownedE ∧ ownedE.state = .owned) ∧
    (let x := handed (worked bidding) true ((Msg.offer ⟨42, 17⟩ 881 2).frame 5 63)
     x.Hands ⟨true, 5, 63⟩ (.offer ⟨42, 17⟩ 881 2) [] ∧ x.req.find ⟨42, 17⟩ = some bidding ∧ bidding.ownOffer = some ⟨881, 881, true⟩) ∧
    -- the owner stale, for a peer's OFFER and the own echo
    (let x := offered (worked peerE)
     let y := { x with span := { x.span with peers := [{ west with stale := true }] } }
     y.req.find ⟨42, 17⟩ = some peerE ∧ peerE.owner = some ⟨3, ⟨1216, 1, false⟩⟩ ∧ ∃ p ∈ y.span.peers, p.addr = 3 ∧ p.stale = true) ∧
    (∀ e ∈ [heardE, bidding, taking, peerE, ownedE], (offered (worked e)).req.Ok ∧ (offered (latched (worked e))).req.Ok ∧
      (handed (worked e) true ((Msg.offer ⟨42, 17⟩ 881 2).frame 5 63)).req.Ok) :=
  ⟨⟨hands_of (by decide +kernel), by decide +kernel⟩, ⟨hands_of (by decide +kernel), by decide +kernel⟩,
    ⟨hands_of (by decide +kernel), by decide +kernel⟩, by decide +kernel, by decide +kernel, by decide +kernel, by decide +kernel,
    ⟨hands_of (by decide +kernel), by decide +kernel⟩, by decide +kernel, by unfold RequestUnit.Ok; decide +kernel⟩

def takeWaits : Entry := entry .bidding .takeWait (some ⟨881, 881, true⟩) (some ⟨500, 1⟩) none
theorem witness_WindowAndTakeWaitExpire :
    ((worked bidding).req.find ⟨(42#8).toNat, (17#8).toNat⟩ = some bidding ∧ bidding.phase = .window ∧ bidding.state = .bidding ∧
      bidding.ownOffer = some ⟨881, 881, true⟩ ∧ bidding.best = some ⟨881, (worked bidding).k⟩ ∧ (worked bidding).fit = true ∧
      (worked bidding).cost bidding.call ≠ none) ∧
    (let e := { bidding with best := some ⟨880, 1⟩ }
     (worked e).req.find ⟨42, 17⟩ = some e ∧ ¬ ∃ o ∈ e.ownOffer, e.best = some ⟨o.cost, (worked e).k⟩) ∧
    ((worked heardE).req.find ⟨42, 17⟩ = some heardE ∧ heardE.phase = .window ∧ heardE.state ≠ .bidding) ∧
    ((worked takeWaits).req.find ⟨42, 17⟩ = some takeWaits ∧ takeWaits.phase = .takeWait ∧ takeWaits.state = .bidding) := by
  decide +kernel

def taken (cost : Nat) (loaded : Bool) (x : Station) : Station := handed x false (peer (.take ⟨42, 17⟩ cost 1 loaded))
/-- The worked call OWNED, with the reel in the hand, its last reassert as given. -/
def holds (last : Option Bool) : Station :=
  { serving .placing .request none with req := { (serving .placing .request none).req with table := [{ ownedE with reassert := last }] } }
theorem witness_TakeIsSettled :
    ((taken 1216 false five).Hands ⟨false, 3, 63⟩ (.take ⟨42, 17⟩ 1216 1 false) [] ∧ (taken 1216 false five).req.find ⟨42, 17⟩ = none) ∧
    ((handed (worked taking) true ((Msg.take ⟨42, 17⟩ 881 2 false).frame 5 63)).Hands ⟨true, 5, 63⟩ (.take ⟨42, 17⟩ 881 2 false) [] ∧ 881 ≠ 0) ∧
    (let x := taken 1216 false (worked bidding)
     x.Hands ⟨false, 3, 63⟩ (.take ⟨42, 17⟩ 1216 1 false) [] ∧ x.req.find ⟨42, 17⟩ = some bidding ∧ bidding.state = .bidding) ∧
    ((taken 1216 false (worked peerE)).req.find ⟨42, 17⟩ = some peerE ∧ peerE.owner = some ⟨3, ⟨1216, 1, false⟩⟩) ∧
    ((taken 1216 false (worked taking)).req.find ⟨42, 17⟩ = some taking ∧ taking.ownOffer = some ⟨881, 881, true⟩) ∧
    ((taken 1216 false (worked ownedE)).req.find ⟨42, 17⟩ = some ownedE ∧ ownedE.state = .owned) ∧
    -- a reassert: kept with the reel (the peer empty), lost without it, kept with a reassert and without
    (let x := taken 0 false (holds none)
     x.Hands ⟨false, 3, 63⟩ (.take ⟨42, 17⟩ 0 1 false) [] ∧ x.req.find ⟨42, 17⟩ = some { ownedE with reassert := none } ∧
      x.reelHeld ⟨42, 17⟩ = true ∧ ¬ x.reelHeld ⟨42, 17⟩ = false) ∧
    (let x := taken 0 false (worked ownedE)
     x.Hands ⟨false, 3, 63⟩ (.take ⟨42, 17⟩ 0 1 false) [] ∧ x.reelHeld ⟨42, 17⟩ = false ∧ ¬ x.k < 1) ∧
    (let x := taken 0 true (holds (some false))
     x.Hands ⟨false, 3, 63⟩ (.take ⟨42, 17⟩ 0 1 true) [] ∧ x.reelHeld ⟨42, 17⟩ = true ∧ ¬ x.k < 1 ∧ some false ≠ some true) ∧
    (let x := taken 0 true (holds (some true))
     x.req.find ⟨42, 17⟩ = some { ownedE with reassert := some true } ∧ x.reelHeld ⟨42, 17⟩ = true) :=
  ⟨⟨hands_of (by decide +kernel), by decide +kernel⟩, ⟨hands_of (by decide +kernel), by decide⟩,
    ⟨hands_of (by decide +kernel), by decide +kernel⟩, by decide +kernel, by decide +kernel, by decide +kernel,
    ⟨hands_of (by decide +kernel), by decide +kernel⟩, ⟨hands_of (by decide +kernel), by decide +kernel⟩,
    ⟨hands_of (by decide +kernel), by decide +kernel⟩, by decide +kernel⟩

theorem witness_HoldEndsInOwned :
    let e : Entry := { taking with hold := true, rival := true }
    (worked e).req.find ⟨(42#8).toNat, (17#8).toNat⟩ = some e ∧ e.state = .taking ∧ e.hold = true ∧ e.ownOffer = some ⟨881, 881, true⟩ ∧
      (∀ d ∈ (worked e).seq.doneList, d.done.tag ≠ ⟨42, 17⟩) ∧ e.rival = true ∧ { e with rival := false }.rival = false ∧
      -- claimed again while an older DONE of the tag waits
      (let x := { worked e with seq := { (worked e).seq with doneList := [⟨mounted, none⟩] } }
       x.req.find ⟨42, 17⟩ = some e ∧ x.req.active = none ∧ ∃ d ∈ x.seq.doneList, d.done.tag = ⟨42, 17⟩) := by decide +kernel

def doneHeard (own : Bool) (x : Station) : Station := handed x own ((Msg.done mounted).frame (if own then 5 else 3) 63)
theorem witness_DoneIsTakenAndReposted :
    (let x := doneHeard true (serving .completing .empty none)
     x.Hands ⟨true, 5, 63⟩ (.done mounted) [] ∧ x.ctl.mode = .ready ∧ ∃ e ∈ x.req.find mounted.tag, e.state = .owned) ∧
    ((doneHeard true five).Hands ⟨true, 5, 63⟩ (.done mounted) [] ∧ ∀ e ∈ (doneHeard true five).req.find mounted.tag, e.state ≠ .owned) ∧
    ((doneHeard false five).Hands ⟨false, 3, 63⟩ (.done mounted) [] ∧ (doneHeard false five).req.find mounted.tag = none) ∧
    ((doneHeard false (worked peerE)).req.find mounted.tag = some peerE ∧ peerE.state = .peer) ∧
    ((doneHeard false (worked taking)).req.find mounted.tag = some taking ∧ taking.state = .taking) ∧
    (let x := doneHeard false { serving .placing .request none with
        seq := { (serving .placing .request none).seq with record := some { record .placing with pickDone := true } } }
     x.req.find mounted.tag = some ownedE ∧ x.pickDone mounted.tag = true) ∧
    ((doneHeard false (serving .toSource .empty none)).pickDone mounted.tag = false) ∧
    ([⟨mounted, none⟩] ++ ⟨mounted, some 0⟩ :: [] = [⟨mounted, none⟩, (⟨mounted, some 0⟩ : DoneRecord)] ∧
      ∀ r ∈ [(⟨mounted, none⟩ : DoneRecord)] ++ [], r.timer ≠ some 0) ∧
    -- one request leaves the owned list while another is ACTIVE; the ACTIVE one, with none and with one OWNED behind it
    (let x := serving .completing .empty none
     x.req.active ≠ some ⟨42, 18⟩ ∧ x.req.active = some ⟨42, 17⟩ ∧ (∀ u ∈ x.req.owned.filter (fun u => u != ⟨42, 17⟩), u ≠ u)) ∧
    (let next : Entry := { ownedE with call := { reel with tag := ⟨42, 18⟩ } }
     let x := table [ownedE, next] [⟨42, 17⟩, ⟨42, 18⟩] (some ⟨42, 17⟩)
     x.req.active = some ⟨42, 17⟩ ∧ x.req.owned.filter (fun u => u != ⟨42, 17⟩) = [] ++ ⟨42, 18⟩ :: [] ∧ x.req.find ⟨42, 18⟩ = some next ∧
      next.state = .owned ∧ ∀ d ∈ x.seq.doneList, d.done.tag ≠ ⟨42, 18⟩) :=
  ⟨⟨hands_of (by decide +kernel), by decide +kernel⟩, ⟨hands_of (by decide +kernel), by decide +kernel⟩,
    ⟨hands_of (by decide +kernel), by decide +kernel⟩, by and_intros <;> decide +kernel⟩

def aged (n : Nat) : Station := clock n (table [entry .heard .none none none none] [] none)
theorem witness_AgeingAndWaiting :
    ((aged 5800).ctl.mode = .ready ∧ (aged 5800).req.Ok ∧ (∀ e ∈ (aged 5800).req.table, e.prompt = none) ∧
      ∃ e ∈ (aged 5800).req.table, e.state = .heard ∧ e.arrival + 1800 ≤ (aged 5800).ctl.second) ∧
    ((aged 4122).req.table.filter (fun e => (e.state = .heard) && decide (e.arrival + 120 + (aged 4122).k ≤ (aged 4122).ctl.second) &&
        !e.noticed && !e.raisedHere) = [entry .heard .none none none none] ∧
      ((aged 4122).raise .requestWaiting ⟨some ⟨42, 17⟩, some reel.volume, none, none, none⟩).2 = some 0) ∧
    -- six general places, none a NOTICE: the raise is refused
    (({ aged 4122 with prm := { (aged 4122).prm with list := (List.range 6).map fun i => prompt (i + 1) .railBlocked (i == 0) 4100 } } : Station).raise
        .requestWaiting ⟨some ⟨42, 17⟩, some reel.volume, none, none, none⟩).2 = none := by
  unfold RequestUnit.Ok; decide +kernel

theorem witness_OfferAndClaimOrder : (Offer.mk 881 2 ≠ ⟨1216, 1⟩) ∧ (0 = 0 ∧ 881 ≠ 0) ∧ (2 ≠ 1) ∧
    (Claim.mk 0 2 true).beats ⟨0, 1, false⟩ = true ∧ (Claim.mk 0 1 false).beats ⟨881, 2, false⟩ = true ∧
    taking.ownOffer = some ⟨881, 881, true⟩ := by decide +kernel

theorem witness_EveryStepKeepsTheRequestTable :
    (ran .mountCall (called (table (many 16 .heard) [] none))).station.req.Ok ∧
      ∃ t, step (ran .mountCall (called (table (many 16 .heard) [] none))) = .next t := by
  refine ⟨?_, _, rfl⟩; unfold RequestUnit.Ok; decide +kernel

def spanHeard (x : Station) (index : Nat) (k : SpanKind) (lo hi : Nat) (ra : Bool) : Station :=
  handed x false (peer (.span index k lo hi false ra))
theorem witness_PeerSpanIsEntered :
    ((spanHeard learning 2 .parked 8400 9600 false).Hands ⟨false, 3, 63⟩ (.span 2 .parked 8400 9600 false false) [] ∧
      learning.ctl.mode = .learning ∧ 2 = learning.k) ∧
    ((handed five false (peer (.span 1 .parked 9600 9600 true false))).Hands ⟨false, 3, 63⟩ (.span 1 .parked 9600 9600 true false) [] ∧
      five.ctl.mode = .ready ∧ 1 ≠ five.k) ∧
    ((spanHeard five 2 .fixed 0 65535 true).Hands ⟨false, 3, 63⟩ (.span 2 .fixed 0 65535 false true) [] ∧ 2 = five.k) :=
  ⟨⟨hands_of (by decide +kernel), by decide +kernel⟩, ⟨hands_of (by decide +kernel), by decide +kernel⟩,
    ⟨hands_of (by decide +kernel), by decide +kernel⟩⟩

def granted : Station := { asks with span := { asks.span with reservation := .granted } }
theorem witness_ReservationMeetsPeerSpan :
    (five.span.own = some ⟨15400, 16600, .parked, false⟩ ∧ five.span.reservation = .parked) ∧
    -- clear at the boundary: 11,200 + G is 11,400; conflicting one further
    (asks.span.own = some ⟨11400, 16600, .moving, false⟩ ∧ asks.span.reservation = .asking ∧ granted.span.reservation = .granted ∧
      (16600 + granted.cv.G ≤ 8400 ∨ 11200 + granted.cv.G ≤ 11400) ∧ ¬ (16600 + granted.cv.G ≤ 8400 ∨ 11201 + granted.cv.G ≤ 11400)) ∧
    ({ granted with span := { granted.span with own := some ⟨11400, 16600, .moving, true⟩ } }.span.own = some ⟨11400, 16600, .moving, true⟩ ∧
      granted.k < 3 ∧ 1 ≤ granted.k) ∧
    (travels.seq.cmd = some ⟨.travel 12000, .stage, 650, none, false⟩ ∧ travels.seq.stop = none ∧ travels.span.reservation = .granted ∧
      waits.span.own = some ⟨15400, 16600, .parked, false⟩ ∧ waits.span.reservation = .waiting ∧ granted.seq.cmd = none) ∧
    (let x := { granted with span := { granted.span with move := some ⟨12000, .dropped⟩ } }
     x.span.reservation = .granted ∧ ∃ m, x.span.move = some m ∧ m.purpose = .dropped) := by
  decide +kernel

theorem witness_SpanHeardBack :
    (let x := handed asks true ((Msg.span 2 .moving 11400 16600 false false).frame 5 63)
     x.Hands ⟨true, 5, 63⟩ (.span 2 .moving 11400 16600 false false) [] ∧ x.span.own = some ⟨11400, 16600, .moving, false⟩ ∧
      x.span.reservation = .asking ∧ x.ctl.mode = .ready) ∧
    (let x := handed five true ((Msg.span 2 .moving 11400 16600 true false).frame 5 63)
     x.Hands ⟨true, 5, 63⟩ (.span 2 .moving 11400 16600 true false) [] ∧ x.span.own = some ⟨15400, 16600, .parked, false⟩ ∧
      x.span.reservation = .parked) ∧
    (let x := handed five true ((Msg.span 2 .parked 15400 16600 false false).frame 5 63)
     x.Hands ⟨true, 5, 63⟩ (.span 2 .parked 15400 16600 false false) [] ∧ SpanKind.parked ≠ .moving) :=
  ⟨⟨hands_of (by decide +kernel), by decide +kernel⟩, ⟨hands_of (by decide +kernel), by decide +kernel⟩,
    ⟨hands_of (by decide +kernel), by decide +kernel⟩⟩

theorem witness_SpanTimersExpire :
    (five.span.own = some ⟨15400, 16600, .parked, false⟩ ∧ (onSpan fun p => { p with restateTimer := some 0 }).span.restateTimer = some 0) ∧
    (waits.span.reservation = .waiting ∧ waits.span.waitTimer = some 0 ∧ waits.span.firstFree = false ∧ 2 ≤ waits.span.retries ∧
      waits.span.railLatch = false ∧ waits.span.move = some ⟨9000, .stage⟩ ∧
      (Station.raise { waits with span := { waits.span with retries := 3 } } .railBlocked ⟨none, none, some 9000, none, none⟩).2 = some 0) ∧
    (min (1 + 1) 3 ≠ 3 ∧ { waits.span with railLatch := true }.railLatch = true) ∧
    -- the expiry that does not count, after a refused raise
    (let x := { waits with span := { waits.span with retries := 3, firstFree := true } }
     (if x.span.firstFree = true then x.span.retries else min (x.span.retries + 1) 3) = 3 ∧ x.span.railLatch = false) ∧
    (let x := { waits with span := { waits.span with retries := 3 },
                           prm := { waits.prm with list := (List.range 6).map fun i => prompt (i + 1) .stationSilent (i == 0) 4100 } }
     (x.raise .railBlocked ⟨none, none, some 9000, none, none⟩).2 = none) := by decide +kernel

theorem witness_EvaluationAsksOrNudges :
    (waits.span.reservation = .waiting ∧ waits.span.rest = some 16000 ∧ waits.span.move = some ⟨9000, .stage⟩ ∧ waits.span.peers = [west] ∧
      ¬ (16600 + waits.cv.G ≤ west.lo ∨ west.hi + waits.cv.G ≤ 8400)) ∧
    (west.kind = .parked ∧ west.stale = false ∧ (∀ n ∈ waits.span.nudges, n.addr ≠ west.addr)) ∧
    ({ west with kind := .fixed }.kind ≠ .parked ∧ { west with stale := true }.stale = true ∧ ∃ n ∈ [NudgeRecord.mk 3 500], n.addr = west.addr) ∧
    -- clear at the boundary, and a peer to the east
    (∀ p ∈ [(⟨1, 3, 7000, 8200, .parked, 5000, false⟩ : PeerSpan)], (16600 + waits.cv.G ≤ p.lo ∨ p.hi + waits.cv.G ≤ 8400)) ∧
    waits.k < (at3 .parked false).index := by decide +kernel

def nudged (x : Station) (w : Bool) (b r dst : Nat) : Station := handed x false ((Msg.nudge w b r).frame 3 dst)
theorem witness_NudgeIsTaken :
    ((nudged five false 11800 1 9).Hands ⟨false, 3, 9⟩ (.nudge false 11800 1) [] ∧ five.ctl.mode = .ready ∧ 9 ≠ five.cv.address) ∧
    ((nudged five false 11800 2 5).Hands ⟨false, 3, 5⟩ (.nudge false 11800 2) [] ∧ five.k ≤ 2) ∧
    ((nudged five false 15400 1 5).Hands ⟨false, 3, 5⟩ (.nudge false 15400 1) [] ∧ five.fit = true ∧ ¬ five.k ≤ 1 ∧ five.span.rest = some 16000 ∧
      five.cv.nearest five.k (15400 + five.cv.H) ≤ 16000) ∧
    ((nudged rest12 false 11800 1 5).Hands ⟨false, 3, 5⟩ (.nudge false 11800 1) [] ∧ rest12.fit = true ∧ rest12.span.rest = some 12000 ∧
      ¬ rest12.cv.nearest rest12.k (11800 + rest12.cv.H) ≤ 12000 ∧ rest12.seq.cmd ≠ none) ∧
    (let x := onSpan fun p => { p with rest := none }
     (nudged x true 20000 3 5).Hands ⟨false, 3, 5⟩ (.nudge true 20000 3) [] ∧ ¬ 3 ≤ x.k ∧ x.span.rest = none) :=
  ⟨⟨hands_of (by decide +kernel), by decide +kernel⟩, ⟨hands_of (by decide +kernel), by decide +kernel⟩,
    ⟨hands_of (by decide +kernel), by decide +kernel⟩, ⟨hands_of (by decide +kernel), by decide +kernel⟩,
    ⟨hands_of (by decide +kernel), by decide +kernel⟩⟩

theorem witness_NudgesAreServed :
    -- no conflict, and a conflicting peer
    ((∀ p ∈ five.span.peers, ¬ ¬ (min (max 16000 12000 + five.cv.H) 65535 + five.cv.G ≤ p.lo ∨ p.hi + five.cv.G ≤ min 16000 12000 - five.cv.H)) ∧
      ∃ p ∈ waits.span.peers, ¬ (min (max 16000 9000 + waits.cv.H) 65535 + waits.cv.G ≤ p.lo ∨ p.hi + waits.cv.G ≤ min 16000 9000 - waits.cv.H)) ∧
    (waits.span.reservation = .waiting ∧ asks.span.reservation = .asking ∧ asks.span.rest = some 16000 ∧ five.span.railPrompt = none ∧
      (onSpan fun p => { p with railPrompt := some 9 }).span.railPrompt = some 9) ∧
    (let x := onSpan fun p => { p with held := [⟨true, 15400, 1⟩, ⟨false, 15000, 3⟩] }
     x.ctl.mode = .ready ∧ x.seq.cmd = none ∧ x.seq.stop = none ∧ x.seq.doorLatch = false ∧ x.seq.fault = none ∧ x.span.move = none ∧
      x.span.reservation ≠ .granted ∧ x.span.rest = some 16000 ∧ x.span.held = ⟨true, 15400, 1⟩ :: [⟨false, 15000, 3⟩] ∧
      x.cv.nearest x.k (15400 + x.cv.H) = 16000 ∧ ¬ 16000 ≤ x.cv.nearest x.k (15000 - x.cv.H)) ∧
    (let x := onSpan fun p => { p with held := [⟨false, 15000, 3⟩] }
     x.ctl.mode = .ready ∧ x.seq.cmd = none ∧ x.seq.stop = none ∧ x.span.reservation ≠ .granted ∧
      x.serveHeld.span.move = some ⟨14400, .nudge⟩ ∧ x.serveHeld.seq.posKnown = true) := by decide +kernel

def silent3 : SilentPeer := ⟨3, some 5000, false, false, none⟩
def quiet3 : Station := onSpan fun p => { p with peers := [{ west with lastHeard := 4992, stale := true }], silent := [silent3] }
theorem witness_SilentPeersAreMarked :
    (let x := onSpan fun p => { p with peers := [{ west with lastHeard := 4994 }] }
     x.ctl.mode = .ready ∧ ∃ p ∈ x.span.peers, !p.stale && decide (p.lastHeard + 6 ≤ x.ctl.second)) ∧
    (quiet3.ctl.mode = .ready ∧ quiet3.span.silent.filter quiet3.silentDue = [silent3] ∧
      (quiet3.raise .stationSilent ⟨none, none, none, none, some 3⟩).2 = some 0) ∧
    (Station.raise { quiet3 with prm := { quiet3.prm with list := (List.range 6).map fun i => prompt (i + 1) .railBlocked (i == 0) 4100 } }
      .stationSilent ⟨none, none, none, none, some 3⟩).2 = none := by decide +kernel

theorem witness_EveryStepKeepsTravelGranted : (ran .tick travels).station.TravelOk ∧ travels.seq.travelling = true ∧
    ∃ t, step (ran .tick travels) = .next t :=
  ⟨fun _ => .inl rfl, rfl, _, rfl⟩

def lostTravel : Station := { stopping with span := { stopping.span with reservation := .waiting, rest := none } }
theorem witness_TravelCompletes :
    (travels.seq.cmd = some ⟨.travel 12000, .stage, 650, none, false⟩ ∧ (0x100#16).toNat / 256 % 16 = 1 ∧ (0x100#16).toNat % 8 = 0 ∧
      travels.span.reservation = .granted ∧ (∀ c ∈ (none : Option StopCauses), c.dropped = false) ∧ travels.span.railPrompt = none) ∧
    (lostTravel.seq.cmd = some ⟨.travel 12000, .stage, 650, some ⟨true, false, false⟩, false⟩ ∧ (0xF1FB#16).toNat / 256 % 16 = 1 ∧
      (0xF1FB#16).toNat % 8 = 3 ∧ lostTravel.span.reservation ≠ .granted ∧ lostTravel.span.reservation = .waiting) ∧
    (let x := { travels with seq := { travels.seq with cmd := some ⟨.travel 12000, .stage, 650, some ⟨false, false, true⟩, true⟩ } }
     x.seq.cmd = some ⟨.travel 12000, .stage, 650, some ⟨false, false, true⟩, true⟩ ∧ (0x103#16).toNat % 8 = 3 ∧
      x.span.reservation = .granted ∧ x.span.own = some ⟨11400, 16600, .moving, false⟩) := by decide +kernel

def cell : Place := ⟨14350, true, 3, false⟩
def picks (st : Stage) (causes : Option StopCauses) (orphan : Bool) : Station :=
  let x := serving st .empty (some (.pick cell))
  { x with seq := { x.seq with cmd := some ⟨.pick cell, .stage, 800, causes, orphan⟩ } }
def places (st : Stage) (hand : Hand) (p : Purpose) (causes : Option StopCauses) : Station :=
  let x := serving st hand (some (.place reel.drive))
  { x with seq := { x.seq with cmd := some ⟨.place reel.drive, p, 800, causes, false⟩ } }
theorem witness_PickAndPlaceComplete :
    ((picks .picking none false).seq.cmd = some ⟨.pick cell, .stage, 800, none, false⟩ ∧ (0x200#16).toNat / 256 % 16 = 2 ∧ (0x200#16).toNat % 8 = 0 ∧
      (0x201#16).toNat % 8 = 1 ∧ (0x203#16).toNat % 8 = 3 ∧ (picks .picking none false).seq.record = some (record .picking) ∧
      (picks .picking none false).callOf ⟨42, 17⟩ = some reel ∧ (record .detourPick).stage = .detourPick) ∧
    ((picks .picking none true).seq.cmd = some ⟨.pick cell, .stage, 800, none, true⟩ ∧
      (picks .picking (some ⟨true, false, false⟩) false).seq.cmd = some ⟨.pick cell, .stage, 800, some ⟨true, false, false⟩, false⟩) ∧
    ((places .placing .request .stage none).seq.cmd = some ⟨.place reel.drive, .stage, 800, none, false⟩ ∧ (0x300#16).toNat / 256 % 16 = 3 ∧
      (0x300#16).toNat % 8 = 0 ∧ (0x302#16).toNat % 8 = 2 ∧ (0x303#16).toNat % 8 = 3 ∧ Purpose.stage ≠ .putBack ∧
      (places .placing .request .stage none).seq.record = some (record .placing) ∧
      (places .placing .request .stage none).callOf ⟨42, 17⟩ = some reel ∧ (places .placing .request .stage none).seq.doneList.length ≤ 3 ∧
      (places .detourPlace .request .stage none).seq.record = some (record .detourPlace)) ∧
    ((places .placing .request .stage (some ⟨true, false, false⟩)).seq.cmd =
        some ⟨.place reel.drive, .stage, 800, some ⟨true, false, false⟩, false⟩ ∧
      (places .placing .orphan .putBack none).seq.cmd = some ⟨.place reel.drive, .putBack, 800, none, false⟩ ∧
      (places .placing .orphan .putBack none).seq.handPrompt = none ∧ (places .placing .orphan .putBack none).seq.hand = .orphan ∧
      (places .placing .orphan .putBack none).seq.handRaiseOwed = false ∧ (places .placing .orphan .putBack none).seq.handReportOwed = false ∧
      (places .placing .orphan .putBack none).seq.fault = none) ∧
    (let x := { places .placing .request .stage none with seq := { (places .placing .request .stage none).seq with
       record := none, cmd := some ⟨.place reel.drive, .stage, 800, none, true⟩ } }
     x.seq.cmd = some ⟨.place reel.drive, .stage, 800, none, true⟩) := by decide +kernel

theorem witness_LabelAndRingComplete :
    (let x := serving .label .request (some .readLabel)
     x.seq.cmd = some ⟨.readLabel, .stage, 800, none, false⟩ ∧ (0x400#16).toNat % 8 = 0 ∧ (0x400#16).toNat / 256 % 16 = 4 ∧
      x.seq.record = some (record .label) ∧ x.callOf ⟨42, 17⟩ = some reel ∧ serialOk reel.volume = true ∧
      [((0x4142#16) >>> 8).truncate 8, (0x4142#16).truncate 8, ((0x3030#16) >>> 8).truncate 8, (0x3030#16).truncate 8,
        ((0x3432#16) >>> 8).truncate 8, (0x3432#16).truncate 8] = reel.volume ∧ (1#16) ≠ 0) ∧
    ((serving .ring .request (some .ringCheck)).seq.cmd = some ⟨.ringCheck, .stage, 800, none, false⟩ ∧ (0x500#16).toNat / 256 % 16 = 5) ∧
    ((onSeq fun q => { q with cmd := some ⟨.readLabel, .stage, 300, none, true⟩ }).seq.cmd = some ⟨.readLabel, .stage, 300, none, true⟩ ∧
      (onSeq fun q => { q with cmd := some ⟨.ringCheck, .stage, 200, none, true⟩ }).seq.cmd = some ⟨.ringCheck, .stage, 200, none, true⟩) := by
  decide +kernel

def reports (hand : Hand) (fault : Option FaultRecord) : Station := onSeq fun q =>
  { q with cmd := some ⟨.report, .check, 100, none, false⟩, hand := hand, fault := fault }
def faultOf (c : Command) (a : FaultAnswer) : FaultRecord := ⟨c, .check, none, some a, false, false, false⟩
theorem witness_ReportCompletes :
    ((reports .empty none).seq.cmd = some ⟨.report, .check, 100, none, false⟩ ∧ (0x600#16).toNat / 256 % 16 = 6 ∧ (0x600#16).toNat % 8 = 0 ∧
      (reports .empty none).seq.fault = none ∧ (reports .empty none).seq.resume = none ∧ (reports .empty none).seq.handPrompt = none) ∧
    ((1#16) ≠ 0 ∧ handAfter (reports .empty none).seq.hand ((1#16) != 0) = .orphan ∧ (reports .empty none).seq.putBack = none ∧
      (reports .empty none).seq.handRaiseOwed = false ∧ (reports .empty none).seq.handReportOwed = false ∧
      (reports .empty none).span.reservation = .parked) ∧
    ((reports .empty (some (faultOf .readLabel .retry))).seq.fault = some (faultOf .readLabel .retry) ∧
      (faultOf .readLabel .retry).answer = some .retry ∧ (faultOf .readLabel .retry).cmd = .readLabel) ∧
    ((reports .empty (some (faultOf (.travel 9) .release))).seq.fault = some (faultOf (.travel 9) .release) ∧
      (faultOf (.travel 9) .release).answer = some .release) ∧
    (let x := { reports .empty none with seq := { (reports .empty none).seq with resume := some (.travel 16000, .home) } }
     x.seq.resume = some (.travel 16000, .home) ∧ Purpose.home ≠ .putBack) ∧
    -- a position reported in each reservation state, the same as before and another; nothing set, and one of HELD and FAULTED set
    (five.span.reservation = .parked ∧ waits.span.reservation = .waiting ∧ asks.span.reservation = .asking ∧
      asks.span.move = some ⟨12000, .stage⟩ ∧ asks.span.rest = some 16000 ∧ asks.span.rest ≠ some 16001 ∧ granted.span.reservation = .granted ∧
      (latched five).seq.doorLatch = true ∧ five.seq.doorLatch = false ∧ five.seq.fault = none ∧ five.span.rest = some 16000 ∧
      (onSpan fun p => { p with rest := none }).span.rest = none) := by decide +kernel
/-- R54, R105: the learning REPORT's position makes the own entry the rest span, FIXED outside the band, and it is stated fresh. -/
theorem test_learning_report :
    let x := { reports .empty none with ctl := learning.ctl, span := SpanUnit.reset }
    let at_ (p : Word) := after (.reportCompletion 0x600 p 0) x
    (at_ 16000).span.own = some ⟨15400, 16600, .parked, false⟩ ∧ (at_ 16000).liu.txq.map (·.frame.body) = [[2, 0, 0x3C, 0x28, 0x40, 0xD8, 1]] ∧
      (at_ 600).span.own = some ⟨0, 1200, .fixed, false⟩ := by decide +kernel

/-- The release REPORT after RETRY for a command of the request, and the REPORT after a door release with that command to resume. -/
def retries (st : Stage) (hand : Hand) (c : Command) : Station :=
  let x := serving st hand none
  { x with seq := { x.seq with cmd := some ⟨.report, .check, 100, none, false⟩, fault := some ⟨c, .stage, none, some .retry, true, false, false⟩ } }
def resumes (st : Stage) (hand : Hand) (c : Command) : Station :=
  let x := serving st hand none
  { x with seq := { x.seq with cmd := some ⟨.report, .check, 100, none, false⟩, resume := some (c, .stage) } }
/-- The release REPORT after RETRY with the request in WAIT-OPERATOR for the outcome of the command whose STOP failed. -/
def asked (st : Stage) (hand : Hand) (c : Command) (k : PromptKind) : Station :=
  let x := retries st hand c
  { x with seq := { x.seq with record := some { record st with waiting := some k, prompt := some 3 } } }
theorem witness_CommandIsTakenUp :
    (let x := retries .picking .request (.pick cell)
     x.seq.cmd = some ⟨.report, .check, 100, none, false⟩ ∧ (0x600#16).toNat / 256 % 16 = 6 ∧ (0x600#16).toNat % 8 = 0 ∧
      x.seq.fault = some ⟨.pick cell, .stage, none, some .retry, true, false, false⟩ ∧ x.seq.resume = none ∧ (1#16) ≠ 0 ∧
      let y := (Station.reportPosition { x with seq := { x.seq with cmd := none, pos := some 14350, fault := none } } 14350).conditionCleared
      y.seq.record = some (record .picking) ∧ (record .picking).waiting = none ∧ y.callOf ⟨42, 17⟩ = some reel) ∧
    (let x := resumes .picking .request (.pick cell)
     x.seq.fault = none ∧ x.seq.resume = some (.pick cell, .stage) ∧ (∀ t, Command.pick cell ≠ .travel t)) ∧
    (let x := resumes .placing .request (.place reel.drive)
     handAfter x.seq.hand ((0#16) != 0) = .empty ∧ handAfter x.seq.hand ((1#16) != 0) = .request ∧ x.seq.handPrompt = none ∧
      let y := Station.reportPosition { x with seq := { x.seq with cmd := none, pos := some 22100, hand := .empty } } 22100
      y.seq.record = some (record .placing) ∧ (record .placing).waiting = none ∧ y.callOf ⟨42, 17⟩ = some reel ∧
        y.seq.doneList.length ≤ 3) ∧
    -- in WAIT-OPERATOR: a PLACE with the gripper empty, a PICK with it loaded, the hand REQUEST or ORPHAN
    (let told (x : Station) (p : Nat) (hand : Hand) :=
       (Station.reportPosition { x with seq := { x.seq with cmd := none, pos := some p, hand := hand, fault := none } } p).conditionCleared
     let a := asked .placing .request (.place reel.drive) .slotOccupied
     let b := asked .picking .request (.pick cell) .cellEmpty
     let c := asked .picking .empty (.pick cell) .cellEmpty
     (told a 22100 .empty).seq.record = some { record .placing with waiting := some .slotOccupied, prompt := some 3 } ∧
      a.seq.handPrompt = none ∧ a.seq.resume = none ∧ Purpose.stage ≠ .putBack ∧
      (told b 14350 .request).seq.record = some { record .picking with waiting := some .cellEmpty, prompt := some 3 } ∧
      handAfter b.seq.hand ((1#16) != 0) = .request ∧ handAfter c.seq.hand ((1#16) != 0) = .orphan ∧
      (told c 14350 .orphan).seq.putBack = none ∧ (told c 14350 .orphan).seq.handPrompt = none ∧
      (told c 14350 .orphan).seq.handRaiseOwed = false ∧ (told c 14350 .orphan).seq.handReportOwed = false) ∧
    ((resumes .detourPlace .request (.place five.cv.windowPlace)).seq.record = some (record .detourPlace) ∧
      handAfter .empty ((1#16) != 0) = .orphan ∧
      ({ retries .picking .empty (.pick cell) with seq := { (retries .picking .empty (.pick cell)).seq with record := none } }).seq.record = none) := by
  refine ⟨by decide +kernel, ⟨rfl, rfl, fun t h => (by cases h)⟩, by decide +kernel⟩
/-- R139, R144: the request asked about stays in WAIT-OPERATOR, no DONE is posted; a reel found in an EMPTY hand is for HAND-LOADED. -/
theorem test_asked_stays :
    let a := after (.reportCompletion 0x600 22100 0) (asked .placing .request (.place reel.drive) .slotOccupied)
    let c := after (.reportCompletion 0x600 14350 1) (asked .picking .empty (.pick cell) .cellEmpty)
    a.seq.record.map (·.waiting) = some (some .slotOccupied) ∧ a.seq.doneList = [] ∧ a.seq.hand = .empty ∧ a.seq.fault = none ∧
      c.seq.record.map (·.stage) = some .picking ∧ c.seq.hand = .orphan ∧ c.seq.cmd = none ∧
      c.prm.list.map (·.kind) = [.handLoaded] := by decide +kernel

theorem witness_FaultsOpen :
    (completionRow (.pickCompletion 0x205) = some (2, 0x205) ∧ (picks .picking none false).seq.cmd = some ⟨.pick cell, .stage, 800, none, false⟩ ∧
      (Command.pick cell).code = 2 ∧ (0x205#16).toNat / 256 % 16 = 2 ∧ 4 ≤ (0x205#16).toNat % 8) ∧
    (completionRow (.travelCompletion 0x101) = some (1, 0x101) ∧ ((0x101#16).toNat % 8 = 1 ∧ 1 ≠ 2) ∧ ((0x202#16).toNat % 8 = 2 ∧ 2 ≠ 3) ∧
      (0x203#16).toNat % 8 = 3 ∧ five.seq.cmd = none) ∧
    (let x := { picks .picking none false with seq := { (picks .picking none false).seq with cmd := some ⟨.pick cell, .stage, 0, none, false⟩ } }
     x.seq.cmd = some ⟨.pick cell, .stage, 0, none, false⟩) ∧
    (let x := { stopping with seq := { stopping.seq with stop := some ⟨0, .travel 12000, .stage⟩ } }
     x.seq.stop = some ⟨0, .travel 12000, .stage⟩ ∧ ∀ f ∈ x.seq.cmd, f.timer ≠ 0) ∧
    (stopping.seq.stop = some ⟨100, .travel 12000, .stage⟩ ∧ (0x700#16).toNat / 256 % 16 = 7 ∧ five.seq.stop = none) ∧
    (five.seq.fault = none ∧ five.span.own = some ⟨15400, 16600, .parked, false⟩ ∧ (serving .placing .request none).req.active = some ⟨42, 17⟩ ∧
      (resumes .picking .empty (.pick cell)).seq.resume = some (.pick cell, .stage)) ∧
    (onSpan fun p => { p with own := none }).span.own = none := by decide +kernel
/-- R55, R63: the learning REPORT fails: band 3,300 to 39,100 of index 2, less and plus H. -/
theorem test_learning_fault :
    let t := after (.reportCompletion 0x604 0 0) { reports .empty none with ctl := learning.ctl, span := SpanUnit.reset }
    t.span.own = some ⟨2700, 39700, .fixed, false⟩ ∧ t.seq.pos = some 21200 ∧ (t.liu.txq.map (·.frame.body)).head? = some [2, 2, 0x0A, 0x8C, 0x9B, 0x14, 1] ∧
      t.prm.list.map (fun e => (e.kind, e.fields.pos)) = [(.carriageFault, some 21200)] := by decide +kernel

theorem witness_DoorAndHold :
    (granted.span.own = some ⟨11400, 16600, .moving, false⟩ ∧ granted.span.reservation = .granted ∧ asks.span.reservation ≠ .granted ∧
      asks.span.rest = some 16000 ∧ (onSpan fun p => { p with rest := none }).span.rest = none) ∧
    (five.pins.door = false ∧ five.ctl.mode = .ready ∧ five.seq.doorLatch = false ∧ five.seq.cmd = none ∧ learning.ctl.mode ≠ .ready ∧
      (latched five).seq.doorLatch = true) ∧
    (travels.pins.door = false ∧ travels.ctl.mode = .ready ∧ travels.seq.doorLatch = false ∧
      travels.seq.cmd = some ⟨.travel 12000, .stage, 650, none, false⟩ ∧ travels.seq.stop = none) ∧
    (let x := onSeq fun q => { q with doorLatch := true, door := { q.door with timer := some 0 } }
     x.seq.door.timer = some 0 ∧ x.seq.doorLatch = true ∧ x.seq.door.heard = false) := by decide +kernel

def stands (p : Nat) (st : Stage) (hand : Hand) : Station :=
  let x := serving st hand none
  { x with seq := { x.seq with pos := some p }, span := { x.span with rest := some p } }
/-- A call OWNED and ACTIVE with its record, the carriage standing at a position. -/
def bound (p : Nat) (c : Call) (r : ReqRecord) : Station :=
  let x := stands p r.stage .request
  { x with req := { x.req with table := [{ ownedE with call := c }], owned := [c.tag], active := some c.tag },
           seq := { x.seq with record := some r } }
theorem witness_NextStepIsChosen :
    (granted.ctl.mode = .ready ∧ granted.seq.cmd = none ∧ granted.seq.stop = none ∧ granted.span.reservation = .granted ∧
      granted.span.move = some ⟨12000, .stage⟩) ∧
    ((latched five).span.reservation ≠ .granted ∧ (latched five).span.held = [] ∧ (latched five).span.move = none ∧
      (latched five).seq.doorLatch = true) ∧
    (let x := onSeq fun q => { q with fault := some { faultOf .report .retry with answer := none } }
     x.seq.fault = some { faultOf .report .retry with answer := none }) ∧
    (five.seq.doorLatch = false ∧ five.seq.fault = none ∧ (onSeq fun q => { q with posKnown := false }).seq.posKnown = false ∧
      five.seq.posKnown = true ∧ five.seq.doorReportOwed = false ∧ five.seq.handReportOwed = false ∧ five.span.move = none ∧
      five.cv.inBand five.k (five.seq.pos.getD 0) = true ∧ five.seq.resume = none ∧ five.seq.hand ≠ .orphan ∧
      five.seq.record = none) ∧
    (let x := onSeq fun q => { q with hand := .orphan, putBack := some ⟨16000, true, 0, false⟩ }
     x.seq.hand = .orphan ∧ x.seq.putBack = some ⟨16000, true, 0, false⟩ ∧ x.seq.pos = some 16000) ∧
    ((stands 14350 .toSource .empty).seq.record = some (record .toSource) ∧ (stands 14350 .toSource .empty).callOf ⟨42, 17⟩ = some reel ∧
      (stands 14350 .toSource .empty).seq.pos = some ((stands 14350 .toSource .empty).cv.sourceOf reel).pos ∧
      (stands 14350 .toSource .empty).cv.inBand 2 14350 = true ∧ (record .completing).stage = .completing) ∧
    ((stands 20000 .detourTravel .request).seq.pos = some (stands 20000 .detourTravel .request).cv.windowPos ∧
      (stands 22100 .toDrive .request).seq.pos = some reel.drive.pos ∧ (record .toDrive).dest = .drive ∧ reel.kind ≠ .demount ∧
      (record .label).stage = .label ∧ (record .ring).stage = .ring ∧ (record .label).waiting = none) ∧
    ((stands 14350 .toDrive .request).seq.pos = some 14350 ∧ 14350 ≠ reel.drive.pos ∧ (stands 14350 .toDrive .request).seq.moveRefused = false ∧
      (stands 14350 .toDrive .request).span.rest = some 14350 ∧ (stands 14350 .toDrive .request).span.reservation = .parked ∧
      (stands 14350 .toDrive .request).cv.inBand 2 reel.drive.pos = true ∧ (stands 14350 .toDrive .request).span.peers = []) ∧
    (let x := { worked heardE with req := { (worked heardE).req with rescan := true } }
     let y := { x with req := { x.req with rescan := false } }
     x.req.rescan = true ∧ 1 ≤ x.req.capacity ∧ x.req.table.filter (fun e => e.state = .heard) = [heardE] ∧ y.cost reel = some (881, 881) ∧
      { y with span := { y.span with rest := none } }.cost reel = none) ∧
    -- a TRAVEL to resume at its target: a stage's, the move home's, a put-back's
    (let x := { stands 14350 .toSource .empty with seq := { (stands 14350 .toSource .empty).seq with resume := some (.travel 14350, .stage) } }
     x.seq.resume = some (.travel 14350, .stage) ∧ x.seq.hand ≠ .orphan ∧ x.seq.record = some (record .toSource) ∧
      x.callOf ⟨42, 17⟩ = some reel ∧ (record .toSource).waiting = none ∧ x.stagePlace (record .toSource) reel = some cell ∧ cell.pos = 14350 ∧
      x.seq.moveRefused = false ∧ x.span.rest = some 14350 ∧ x.span.reservation = .parked ∧ x.cv.inBand x.k 14350 = true ∧ x.span.peers = []) ∧
    (let x := onSeq fun q => { q with resume := some (.travel 16000, .putBack), hand := .orphan, putBack := some ⟨16000, true, 0, false⟩ }
     x.seq.resume = some (.travel 16000, .putBack) ∧ x.seq.hand = .orphan ∧ x.seq.putBack = some ⟨16000, true, 0, false⟩ ∧
      x.cv.inBand x.k 16000 = true) ∧
    -- the remaining stages, each at its place and elsewhere: LOAD-WAIT, PLACING in the window, the detour's PICK, the reel put back
    ((stands 9000 .loadWait .empty).seq.record = some (record .loadWait) ∧ (record .loadWait).waiting = none ∧
      (stands 9000 .loadWait .empty).callOf ⟨42, 17⟩ = some reel) ∧
    (let r := { record .placing with dest := .window }
     let x (p : Nat) := bound p reel r
     (x 20000).seq.record = some r ∧ (x 20000).seq.hand ≠ .orphan ∧ (x 20000).callOf r.tag = some reel ∧
      (x 20000).seq.pos = some (x 20000).cv.windowPlace.pos ∧ (x 9000).span.rest = some 9000 ∧ 9000 ≠ (x 9000).cv.windowPlace.pos ∧
      (x 9000).cv.inBand 2 20000 = true) ∧
    ((stands 20000 .detourPick .empty).seq.pos = some (stands 20000 .detourPick .empty).cv.windowPos ∧ (record .detourPick).stage = .detourPick ∧
      (stands 9000 .detourPick .empty).seq.pos = some 9000) ∧
    (let r := { record .toCell with dest := .source }
     reel.source = some cell ∧ cell.window = false ∧ (bound 14350 reel r).seq.pos = some cell.pos ∧ (bound 9000 reel r).seq.pos = some 9000) ∧
    -- a demount at its drive, and bound for the cell
    (let r (st : Stage) := { record st with tag := back.tag, dest := .ret }
     (bound 22100 back (r .toDrive)).seq.pos = some back.drive.pos ∧ (bound 22100 back (r .toDrive)).callOf back.tag = some back ∧
      back.kind = .demount ∧ (bound 9000 back (r .toDrive)).seq.record = some (r .toDrive) ∧ (bound 14350 back (r .toCell)).seq.pos = some cell.pos ∧
      back.ret = some cell ∧ (bound 14350 back (r .placing)).callOf back.tag = some back) := by
  and_intros <;> decide +kernel

def moving (st : Stage) (r : Reservation) (c : Option Command) : Station :=
  let x := serving st .empty c
  { x with span := { x.span with reservation := r, move := some ⟨14350, .stage⟩ } }
theorem witness_RequestsAreGivenUp :
    ((serving .label .request none).seq.record = some (record .label) ∧ (record .label).tag ≠ ⟨42, 18⟩ ∧ five.seq.record = none) ∧
    (let x := { serving .picking .empty none with seq := { (serving .picking .empty none).seq with
       record := some { record .picking with waiting := some .cellEmpty, prompt := some 14 } } }
     x.seq.record = some { record .picking with waiting := some .cellEmpty, prompt := some 14 } ∧ x.span.move = none ∧ x.seq.cmd = none) ∧
    ((record .label).waiting = none ∧ (serving .label .request none).span.reservation = .parked ∧ (serving .label .request none).seq.cmd = none) ∧
    ((serving .label .request (some .readLabel)).seq.cmd = some ⟨.readLabel, .stage, 800, none, false⟩ ∧ ∀ d, Command.readLabel ≠ .travel d) ∧
    (let x := moving .toSource .granted (some (.travel 14350))
     x.span.reservation = .granted ∧ x.seq.cmd = some ⟨.travel 14350, .stage, 800, none, false⟩ ∧ x.seq.stop = none ∧
      x.span.move = some ⟨14350, .stage⟩) ∧
    ((moving .toSource .waiting none).seq.cmd = none ∧ (moving .toSource .waiting none).span.move = some ⟨14350, .stage⟩ ∧
      (moving .toSource .waiting none).span.reservation = .waiting ∧ (moving .toSource .asking none).span.reservation = .asking) ∧
    (let x (a : FaultAnswer) := { serving .label .request none with seq := { (serving .label .request none).seq with
       fault := some (faultOf .readLabel a) } }
     (x .retry).ctl.mode = .ready ∧ (x .retry).seq.cmd = none ∧ (x .retry).seq.stop = none ∧ (x .retry).seq.doorLatch = false ∧
      (x .retry).span.reservation ≠ .granted ∧ (x .retry).span.held = [] ∧ (x .retry).span.move = none ∧
      (x .retry).seq.fault = some (faultOf .readLabel .retry) ∧ (faultOf .readLabel .retry).answer = some .retry ∧
      (x .release).seq.fault = some (faultOf .readLabel .release) ∧ (faultOf .readLabel .release).answer = some .release) ∧
    (let x := serving .label .request none
     (⟨42, 17⟩ : Tag) ∈ x.req.owned ∧ x.req.find ⟨42, 17⟩ = some ownedE ∧ ownedE.state = .owned ∧ x.seq.doneList = [] ∧
      x.callOf ⟨42, 17⟩ = some reel) ∧
    (let x := { serving .label .request none with seq := { (serving .label .request none).seq with
       doneList := ⟨mounted, none⟩ :: List.replicate 3 ⟨{ mounted with tag := ⟨42, 99⟩ }, none⟩ } }
     4 ≤ x.seq.doneList.length ∧
      x.seq.doneList = [⟨mounted, none⟩] ++ ⟨{ mounted with tag := ⟨42, 99⟩ }, none⟩ :: List.replicate 2 ⟨{ mounted with tag := ⟨42, 99⟩ }, none⟩ ∧
      x.req.owns ⟨42, 99⟩ = false ∧ x.req.owns mounted.tag = true) := by
  refine ⟨by decide +kernel, by decide +kernel, by decide +kernel, ⟨rfl, fun d h => (by cases h)⟩, by decide +kernel⟩

theorem witness_RaiseIsTaken :
    (five.prm.list = [] ∧ five.prm.nextNum ≤ 255) ∧
    (let x := { listed list3 with prm := { (listed list3).prm with nextNum := 255 } }
     (∀ e ∈ x.prm.list, e.num ≠ x.prm.nextNum) ∧ (x.prm.list.filter fun e => !e.kind.requestBound).length ≤ 5 ∧
      x.prm.list.find? (fun e => e.shown) = some (prompt 14 .cellEmpty true 5015) ∧
      PromptKind.railBlocked.level.rank ≤ (prompt 14 .cellEmpty true 5015).level.rank ∧
      x.prm.list = list3.take 2 ++ prompt 14 .cellEmpty true 5015 :: [] ∧ (∀ v ∈ list3.take 2 ++ [], v.shown = false ∧ v.num ≠ 14) ∧ (prompt 14 .cellEmpty true 5015).level.rank < PromptKind.doorOpen.level.rank ∧
      x.prm.clears.length ≤ 7) ∧
    (PromptKind.cleanDue.requestBound = false ∧ 6 ≤ (sixSilent.filter fun e => !e.kind.requestBound).length ∧
      (∀ u ∈ sixSilent.filter (fun e => !e.kind.requestBound), u.level ≠ .notice) ∧ ∀ e ∈ sixSilent, e.num ≠ 0) ∧
    -- six general places with a NOTICE, QUEUED or SHOWN, and none SHOWN
    (let l (v : PromptEntry) := v :: (sixSilent.drop 1)
     ((l (prompt 9 .cleanDue false 5000)).filter fun e => !e.kind.requestBound).length = 6 ∧
      ((l (prompt 9 .requestWaiting true 5000)).filter fun e => !e.kind.requestBound).find? (fun u => u.level == .notice) =
        some (prompt 9 .requestWaiting true 5000) ∧
      (∀ u ∈ l (prompt 9 .cleanDue false 5000), u.num = 9 → u = prompt 9 .cleanDue false 5000) ∧ five.prm.clears.length ≤ 7) ∧
    (let l := [prompt 12 .cleanDue false 5000, prompt 13 .railBlocked false 5010, prompt 14 .stationSilent false 5015]
     l = [prompt 12 .cleanDue false 5000] ++ prompt 13 .railBlocked false 5010 :: [prompt 14 .stationSilent false 5015] ∧
      (∀ v ∈ l, v.shown = false) ∧ (prompt 12 .cleanDue false 5000).level.rank < (prompt 13 .railBlocked false 5010).level.rank ∧
      (prompt 14 .stationSilent false 5015).level.rank ≤ (prompt 13 .railBlocked false 5010).level.rank) := by decide +kernel

def cellMsg : PromptMsg := ⟨14, .cellEmpty, .urgent, ⟨some ⟨42, 17⟩, some reel.volume, some 14350, none, none⟩⟩
def waitMsg : PromptMsg := ⟨3, .requestWaiting, .notice, ⟨some ⟨42, 17⟩, some reel.volume, none, none, none⟩⟩
def silentMsg : PromptMsg := ⟨0, .stationSilent, .action, ⟨none, none, none, none, some 9⟩⟩
def doorMsg : PromptMsg := ⟨255, .doorOpen, .urgent, ⟨none, none, none, none, none⟩⟩
def clearing : Station := onPrm fun p => { p with clears := [⟨14, .answered, .none⟩, ⟨12, .preempted, .none⟩] }
theorem witness_PromptFramesAreHeard :
    ((handed urgent14 true (cellMsg |> Msg.prompt |>.frame 5 63)).Hands ⟨true, 5, 63⟩ (.prompt cellMsg) [] ∧ urgent14.ctl.mode = .ready ∧
      cellMsg.kind ≠ .doorOpen) ∧
    ((handed five false (peer (.prompt waitMsg))).Hands ⟨false, 3, 63⟩ (.prompt waitMsg) [] ∧ waitMsg.fields.tag = some ⟨42, 17⟩) ∧
    ((handed five false (peer (.prompt silentMsg))).Hands ⟨false, 3, 63⟩ (.prompt silentMsg) [] ∧ silentMsg.fields.peer = some 9) ∧
    ((handed learning false (peer (.prompt doorMsg))).Hands ⟨false, 3, 63⟩ (.prompt doorMsg) [] ∧ learning.ctl.mode = .learning) ∧
    ((handed five false (peer (.prompt cellMsg))).Hands ⟨false, 3, 63⟩ (.prompt cellMsg) []) ∧
    ((handed five true ((Msg.prompt doorMsg).frame 5 63)).Hands ⟨true, 5, 63⟩ (.prompt doorMsg) [] ∧ doorMsg.kind = .doorOpen) ∧
    ((handed five true ((Msg.clear 12 .preempted).frame 5 63)).Hands ⟨true, 5, 63⟩ (.clear 12 .preempted) [] ∧ five.prm.clears = []) ∧
    ((handed five false (peer (.clear 14 .answered))).Hands ⟨false, 3, 63⟩ (.clear 14 .answered) []) ∧
    ((handed clearing true ((Msg.clear 12 .preempted).frame 5 63)).Hands ⟨true, 5, 63⟩ (.clear 12 .preempted) [] ∧
      clearing.prm.clears = [⟨14, .answered, .none⟩] ++ ⟨12, .preempted, .none⟩ :: [] ∧
      ∀ v ∈ [(⟨14, .answered, .none⟩ : ClearRecord)], v.num ≠ 12 ∨ v.reason ≠ .preempted ∨ v.drop ≠ .none) ∧
    -- two like records: the newer, the older, and neither
    (let a : ClearRecord := ⟨12, .preempted, .none⟩
     let awaits (v : ClearRecord) : Bool := decide (v.num = 12 ∧ v.reason = .preempted ∧ v.drop = .none)
     [a, a] = [a] ++ a :: [] ∧ awaits a = true ∧ (([] : List ClearRecord).filter awaits).length = 0 ∧ [a, a] = [] ++ a :: [a] ∧
      ([a].filter awaits).length = 1 ∧ ([a, a].filter awaits).length ≤ 2) :=
  ⟨⟨hands_of (by decide +kernel), by decide +kernel⟩, ⟨hands_of (by decide +kernel), by decide +kernel⟩,
    ⟨hands_of (by decide +kernel), by decide +kernel⟩, ⟨hands_of (by decide +kernel), by decide +kernel⟩,
    hands_of (by decide +kernel), ⟨hands_of (by decide +kernel), by decide⟩, ⟨hands_of (by decide +kernel), by decide +kernel⟩,
    hands_of (by decide +kernel), ⟨hands_of (by decide +kernel), by decide +kernel⟩, by decide⟩

def replied (x : Station) (dst st num : Nat) (a : Answer) : Station := handed x false ⟨0x43, 60, byteOf dst, (Msg.reply st num a).body⟩
/-- HELD, with DOOR-OPEN 7 of station 3 heard and its own DOOR-OPEN 4 shown. -/
def doors (own raised door : Bool) : Station :=
  let x := listed (if own then [prompt 4 .doorOpen true 5000] else [])
  { x with pins := { x.pins with door := door },
           seq := { x.seq with doorLatch := true, door := ⟨[⟨3, 7⟩, ⟨5, 4⟩], true, raised, none, false, none⟩ } }
theorem witness_ReplyIsTaken :
    ((replied (listed list3) 5 9 14 .retry).Hands ⟨false, 60, 5⟩ (.reply 9 14 .retry) [] ∧ five.ctl.mode = .ready ∧ 9 ≠ five.cv.address ∧
      Answer.retry ≠ .cont) ∧
    ((replied (listed list3) 5 5 12 .cont).Hands ⟨false, 60, 5⟩ (.reply 5 12 .cont) [] ∧
      (listed list3).seq.door.numbers = [] ∧ (listed list3).prm.list.find? (fun e => e.shown) = some (prompt 14 .cellEmpty true 5015) ∧
      (prompt 14 .cellEmpty true 5015).num ≠ 12) ∧
    ((replied (listed list3) 5 5 14 .retry).Hands ⟨false, 60, 5⟩ (.reply 5 14 .retry) [] ∧
      (prompt 14 .cellEmpty true 5015).kind.allows .retry = true ∧ (prompt 14 .cellEmpty true 5015).kind ≠ .doorOpen) ∧
    ((replied (doors true true false) 5 5 4 .cont).Hands ⟨false, 60, 5⟩ (.reply 5 4 .cont) [] ∧
      (doors true true false).prm.list.find? (fun e => e.shown) = some (prompt 4 .doorOpen true 5000) ∧
      (prompt 4 .doorOpen true 5000).kind.allows .cont = true ∧ (doors true true false).pins.door = false) ∧
    ((replied (doors false false false) 3 3 7 .cont).Hands ⟨false, 60, 3⟩ (.reply 3 7 .cont) [] ∧ 3 ≠ five.cv.address ∧
      (∃ d ∈ (doors false false false).seq.door.numbers, d.addr = 3 ∧ d.num = 7) ∧ (doors false false false).seq.doorLatch = true ∧
      (doors false false false).pins.door = false ∧ (doors false false false).seq.door.raised = false) ∧
    ((replied (doors false false true) 3 3 7 .cont).Hands ⟨false, 60, 3⟩ (.reply 3 7 .cont) [] ∧ (doors false false true).pins.door = true) ∧
    (let x := { doors false false false with seq := { (doors false false false).seq with doorLatch := false } }
     (replied x 3 3 7 .cont).Hands ⟨false, 60, 3⟩ (.reply 3 7 .cont) [] ∧ x.seq.doorLatch = false) ∧
    -- a door release that comes too late for the prompt it names, and one refused with the door open (R168)
    ((replied (doors false true false) 5 5 4 .cont).Hands ⟨false, 60, 5⟩ (.reply 5 4 .cont) [] ∧
      (doors false true false).prm.list.find? (fun e => e.shown) = none ∧
      ∃ d ∈ (doors false true false).seq.door.numbers, d.addr = 5 ∧ d.num = 4) ∧
    ((replied (doors true true true) 5 5 4 .cont).Hands ⟨false, 60, 5⟩ (.reply 5 4 .cont) [] ∧
      (doors true true true).prm.list.find? (fun e => e.shown) = some (prompt 4 .doorOpen true 5000) ∧ (doors true true true).pins.door = true) ∧
    -- one whose number names another prompt of the station by now
    (let x := { doors false false false with prm := { five.prm with list := [prompt 4 .loadWindow true 5000] } }
     (replied x 5 5 4 .cont).Hands ⟨false, 60, 5⟩ (.reply 5 4 .cont) [] ∧
      x.prm.list.find? (fun e => e.shown) = some (prompt 4 .loadWindow true 5000) ∧ (prompt 4 .loadWindow true 5000).kind.allows .cont = true) ∧
    (let x := { doors true true false with seq := { (doors true true false).seq with
       door := { (doors true true false).seq.door with prompt := some 4 } } }
     x.seq.doorLatch = true ∧ x.pins.door = false ∧ x.seq.door.raised = true ∧ x.seq.door.prompt = some 4) :=
  ⟨⟨hands_of (by decide +kernel), by decide +kernel⟩, ⟨hands_of (by decide +kernel), by decide +kernel⟩,
    ⟨hands_of (by decide +kernel), by decide +kernel⟩, ⟨hands_of (by decide +kernel), by decide +kernel⟩,
    ⟨hands_of (by decide +kernel), by decide +kernel⟩, ⟨hands_of (by decide +kernel), by decide +kernel⟩,
    ⟨hands_of (by decide +kernel), by decide +kernel⟩,
    ⟨hands_of (by decide +kernel), by decide +kernel⟩, ⟨hands_of (by decide +kernel), by decide +kernel⟩,
    ⟨hands_of (by decide +kernel), by decide +kernel⟩, by decide +kernel⟩

def stuck (k : PromptKind) (st : Stage) (hand : Hand) : Station :=
  let x := serving st hand none
  { x with seq := { x.seq with record := some { record st with waiting := some k, prompt := some 14 } } }
theorem witness_AnswersTakeEffect :
    (∀ p ∈ [(PromptKind.loadWindow, Stage.loadWait), (.cellEmpty, .picking), (.serialMismatch, .label), (.ringNeeded, .detourPick),
        (.slotOccupied, .placing)],
      (stuck p.1 p.2 .empty).seq.record = some { record p.2 with waiting := some p.1, prompt := some 14 } ∧
        (stuck p.1 p.2 .empty).callOf ⟨42, 17⟩ = some reel ∧ (prompt 14 p.1 true 5000).kind = p.1) ∧
    ((reports .empty (some { faultOf .report .retry with prompt := some 14 })).seq.fault = some { faultOf .report .retry with prompt := some 14 } ∧
      (onSeq fun q => { q with handPrompt := some 14 }).seq.handPrompt = some 14 ∧ five.span.reservation ≠ .waiting ∧
      waits.span.reservation = .waiting) ∧
    (let x := onSpan fun p => { p with silent := [{ silent3 with prompt := some 14 }] }
     x.span.silent.find? (fun r => r.prompt == some 14) = some { silent3 with prompt := some 14 }) := by decide +kernel

def lone (k : PromptKind) (shown : Bool) (n : Nat) : Station := clock n (listed [prompt 14 k shown 5000])
theorem witness_PromptTimersExpire :
    -- a QUEUED NOTICE behind a SHOWN ACTION, 30 s old; a SHOWN one alone; one of the Accounting Unit's
    ((clock 5030 (listed [prompt 13 .requestWaiting false 5000, prompt 14 .cellEmpty true 5015])).prm.list.filter
        (fun u => (u.level = .notice) && decide (u.raised + 30 ≤ 5030)) = [prompt 13 .requestWaiting false 5000] ∧
      (prompt 13 .requestWaiting false 5000).shown = false ∧ (prompt 12 .cleanDue false 5000).kind = .cleanDue) ∧
    ((lone .requestWaiting true 5030).prm.list = [prompt 14 .requestWaiting true 5000] ∧ (lone .requestWaiting true 5030).prm.clears.length ≤ 7 ∧
      (prompt 14 .requestWaiting true 5000).level = .notice) ∧
    ((lone .cellEmpty true 5060).prm.list.filter (fun u => (u.level = .action) && decide (u.raised + 60 ≤ 5060)) =
        [prompt 14 .cellEmpty true 5000] ∧
      (lone .cellEmpty true 5060).prm.list.filter (fun u => (u.level = .notice) && decide (u.raised + 30 ≤ 5060)) = []) ∧
    (let l := [prompt 13 .railBlocked false 5000, { prompt 14 .carriageFault true 5055 with level := .urgent }]
     l.filter (fun u => (u.level = .action) && decide (u.raised + 60 ≤ 5060)) = [prompt 13 .railBlocked false 5000] ∧
      l.find? (fun u => u.shown) = some { prompt 14 .carriageFault true 5055 with level := .urgent } ∧
      ∀ u ∈ l, u.num = 13 → u = prompt 13 .railBlocked false 5000) ∧
    -- a SHOWN NOTICE 30 s old with younger ones behind it, of the Request Unit and the Accounting Unit
    (∀ k ∈ [PromptKind.requestWaiting, .storeLost],
      let e := prompt 14 k true 5000
      let v := prompt 13 .cleanDue false 5010
      let l := [e, v, prompt 15 .cleanDue false 5020]
      l.filter (fun u => (u.level = .notice) && decide (u.raised + 30 ≤ 5030)) = [e] ∧ (∀ u ∈ l, u.shown = true → u = e) ∧
        (∀ u ∈ l, u.num = e.num → u = e) ∧ l.filter (fun u => u.num != e.num) = [] ++ v :: [prompt 15 .cleanDue false 5020] ∧
        (prompt 15 .cleanDue false 5020).level.rank ≤ v.level.rank ∧ (prompt 15 .cleanDue false 5020).num ≠ v.num) ∧
    -- an escalation that preempts the SHOWN ACTION
    (let l := [prompt 13 .railBlocked false 5000, prompt 14 .cellEmpty true 5001]
     l.filter (fun u => (u.level = .action) && decide (u.raised + 60 ≤ 5060)) = [prompt 13 .railBlocked false 5000] ∧
      l.find? (fun u => u.shown) = some (prompt 14 .cellEmpty true 5001) ∧ (prompt 14 .cellEmpty true 5001).level ≠ .urgent) ∧
    (let e := { prompt 14 .carriageFault true 5000 with resend := some 5095 }
     [e].filter (fun u => u.shown && (u.level = .urgent) && u.resend.any fun r => decide (r ≤ 5095)) = [e]) ∧
    -- the postings after drops: held back by an escalation due, and not; a PROMPT due or none; a PROMPT-CLEAR due, still true or not
    (∃ u ∈ (lone .cellEmpty true 5060).prm.list, u.level = .action ∧ u.raised + 60 ≤ 5060) ∧
    (let e := { prompt 14 .cellEmpty true 5000 with drop := .due }
     let c : ClearRecord := ⟨12, .answered, .due⟩
     let d : ClearRecord := ⟨14, .preempted, .due⟩
     [e].filter (fun u => u.shown && u.drop == .due) = [e] ∧ (∀ u ∈ [e], u.level ≠ .notice ∧ ¬ u.raised + 60 ≤ 5059 ∧ u.level ≠ .urgent) ∧
      (∀ u ∈ [e], u.num ≠ c.num) ∧ ¬ (∃ u, [e].find? (fun u => u.num == d.num) = some u ∧ u.shown = false) ∧
      [c] = [] ++ c :: [] ∧ (∀ v ∈ [(⟨11, .expired, .none⟩ : ClearRecord)], v.drop ≠ .due)) := by decide +kernel

theorem witness_EveryStepKeepsBeacon : (ran .promptEscalation (lone .cellEmpty true 5060)).station.prm.Ok ∧
    ∃ t, step (ran .promptEscalation (lone .cellEmpty true 5060)) = .next t := by
  refine ⟨?_, _, rfl⟩; unfold PromptUnit.Ok; decide +kernel

def pend (k : Nat) : Station := { closing with store := { closing.store with pendingIncs := List.replicate k (.occupancy 311 1) } }
theorem witness_DoneIsAccounted :
    ((⟨some 311, 65535, 65535, 65535, 16777215⟩ : Slot).mounts ≤ 65535) ∧
    (closing.store.table.slots = [] ++ ⟨some 311, 12, 5, 2, 40200⟩ :: slots99.drop 1 ∧
      closing.store.table.slots = slots99.take 3 ++ ⟨none, 0, 0, 0, 0⟩ :: slots99.drop 4 ∧
      (∀ u ∈ closing.store.table.slots, u.account ≠ some 5) ∧ (∀ u ∈ slots99.take 3, u.account ≠ none)) ∧
    (∀ u ∈ (List.range 63).map fun i => (⟨some i, 1, 0, 0, 0⟩ : Slot), u.account ≠ none ∧ u.account ≠ some 4095) ∧
    (31 < five.store.drives.length ∧ five.store.closeBusy = false ∧ five.store.pendingIncs.length + 2 ≤ 8 ∧ closing.store.closeBusy = true ∧
      (pend 6).store.pendingIncs.length + 2 ≤ 8 ∧ (pend 8).store.pendingIncs.length = 8 ∧ (pend 8).store.losses ≤ 65535) ∧
    (mounted.result = .mounted ∧ mounted.kind = .mount ∧ five.cv.clean ≠ 0 ∧ (∃ r ∈ five.acc, r.subject = .cleanDue 6) ∧
      closing.store.drives[6]? = some ⟨140, 39⟩ ∧ min (39 + 1) 65535 = closing.cv.clean) ∧
    -- 7 increments waiting and a DONE that makes two: one waits, one is lost
    (let x := { pend 7 with store := { (pend 7).store with occupancy := [⟨6, 311, 3200⟩] } }
     x.store.closeBusy = true ∧ x.store.pendingIncs.length = 7 ∧ 7 ≤ 8 ∧ x.store.losses = 0 ∧ mounted.driveNo = 6 ∧
      x.store.occupancy.find? (fun o => o.drive == 6) = some ⟨6, 311, 3200⟩) ∧
    -- a full table: the mark clear and set, the prompt's record at NONE and not
    (let x := onStore fun t => { t with table := { t.table with slots := (List.range 63).map fun i => ⟨some i, 1, 0, 0, 0⟩ } }
     (x.store.table.charge (.mount 311 true false)).2 = true ∧ x.store.accountsFull = false ∧ x.accStatus .accountsFull = .none ∧
      (x.setAcc .accountsFull fun r => { r with status := .wanted }).accStatus .accountsFull ≠ .none ∧
      (closing.store.table.charge (.mount 311 true false)).2 = false) ∧
    -- a RETURNED demount with its occupancy open, and an own MOUNT with no cleaning interval
    (let x := onStore fun t => { t with occupancy := [⟨6, 311, 3200⟩] }
     let d : Done := { mounted with kind := .demount, result := .returned }
     x.store.closeBusy = false ∧ d.kind = .demount ∧ d.result = .returned ∧ x.store.occupancy.find? (fun u => u.drive == d.driveNo) = some ⟨6, 311, 3200⟩) ∧
    (let x := onCtl fun c => { c with cfg := some { cfg with clean := 0 } }
     x.cv.clean = 0 ∧ x.store.closeBusy = false ∧ x.store.occupancy.find? (fun u => u.drive == mounted.driveNo) = none) := by decide +kernel

def ask (x : Station) (m : Msg) : Station := handed x false (from_ 61 m)
theorem witness_CollectorIsAnswered :
    ((ask closing (.tallyAsk .live 255 4)).Hands ⟨false, 61, 5⟩ (.tallyAsk .live 255 4) [] ∧ closing.ctl.mode = .ready ∧ 5 = closing.cv.address ∧
      closing.store.closeBusy = true) ∧
    ((ask five (.tallyAsk .drives 0 8)).Hands ⟨false, 61, 5⟩ (.tallyAsk .drives 0 8) [] ∧ five.store.closeBusy = false ∧ five.store.snapHeld = false) ∧
    ((ask held (.tallyAsk .closed 60 4)).Hands ⟨false, 61, 5⟩ (.tallyAsk .closed 60 4) [] ∧ held.store.closeBusy = false ∧ held.store.snapHeld = true) ∧
    ((ask learning (.periodClose 1)).Hands ⟨false, 61, 5⟩ (.periodClose 1) [] ∧ ¬ learning.ctl.mode = .ready ∧ learning.ctl.mode = .learning) ∧
    ((ask five (.periodClose 65535)).Hands ⟨false, 61, 5⟩ (.periodClose 65535) [] ∧
      (ask held (.periodClose 8)).Hands ⟨false, 61, 5⟩ (.periodClose 8) []) ∧
    ((ask held (.tallyTaken 7)).Hands ⟨false, 61, 5⟩ (.tallyTaken 7) [] ∧ held.store.snapshot.period = 7 ∧
      (ask held (.tallyTaken 6)).Hands ⟨false, 61, 5⟩ (.tallyTaken 6) [] ∧ held.store.snapshot.period ≠ 6) :=
  ⟨⟨hands_of (by decide +kernel), by decide +kernel⟩, ⟨hands_of (by decide +kernel), by decide +kernel⟩,
    ⟨hands_of (by decide +kernel), by decide +kernel⟩, ⟨hands_of (by decide +kernel), by decide +kernel⟩,
    ⟨hands_of (by decide +kernel), hands_of (by decide +kernel)⟩,
    ⟨hands_of (by decide +kernel), by decide +kernel, hands_of (by decide +kernel), by decide +kernel⟩⟩

theorem witness_CloseCopiesAndCompletes :
    (closing.store.closeBusy = true ∧ closing.store.closing.next < 63 ∧
      closing.store.table.slots[closing.store.closing.next]? = some ⟨none, 0, 0, 0, 0⟩) ∧
    (let t := { closing.store with closing := ⟨7, 63, 0, false⟩ }; t.closeBusy = true ∧ 63 ≤ t.closing.next) ∧
    (five.store.closeBusy = false ∧ closing.store.closing.lastDue = false ∧ learning.ctl.mode ≠ .ready ∧ closing.ctl.mode = .ready) ∧
    (let t := { closing.store with closing := ⟨7, 63, 0, true⟩ }
     t.closeBusy = true ∧ t.closing.lastDue = true ∧ t.closing.next = 63 ∧ t.table.slots.length = 63) := by decide +kernel

theorem witness_EveryStepKeepsTheStore : (ran .tick closing).station.store.Ok ∧ closing.store.valid = true ∧
    ∃ t, step (ran .tick closing) = .next t := by
  refine ⟨fun _ => ?_, rfl, _, rfl⟩
  simp only [AccountTable.Ok, Slot.Ok]; decide +kernel

end Sys2Proof.Tests
end

section
/-! Posting in four cases and the withdrawal of a SPAN (R13 to R16). The transmit queue is read as the frame in transmission, if any, and
the frames behind it: joining and displacing work on the latter alone, so that both are lemmas about a list in sending order. -/

namespace Sys2Proof.Machine

/-! ## The frame in transmission and the frames behind it (R13) -/

/-- The frame in transmission, as a list of at most one. -/
def Liu.inTransmission (l : Liu) : List TxEntry := if l.access = .sending then l.txq.take 1 else []

/-- The frames of the queue that are not in transmission. -/
def Liu.notInTransmission (l : Liu) : List TxEntry := if l.access = .sending then l.txq.tail else l.txq

theorem Liu.txq_eq_append (l : Liu) : l.txq = l.inTransmission ++ l.notInTransmission := by
  unfold Liu.inTransmission Liu.notInTransmission
  split
  · cases l.txq <;> rfl
  · rfl

theorem Liu.ordered_iff (l : Liu) : l.ordered ↔ classOrdered l.notInTransmission := Iff.rfl

theorem Liu.mem_inTransmission {l : Liu} {x : TxEntry} (h : x ∈ l.inTransmission) :
    l.access = .sending ∧ l.txq.head? = some x := by
  unfold Liu.inTransmission at h
  split at h
  next hs =>
    cases hq : l.txq with
    | nil => simp [hq] at h
    | cons y ys => simp_all
  next => cases h

theorem Liu.insert_eq (l : Liu) (e : TxEntry) : l.insert e = l.inTransmission ++ insertByClass e l.notInTransmission := by
  unfold Liu.insert Liu.inTransmission Liu.notInTransmission
  split
  next hs hq => simp [hs, hq]
  next hne =>
    split
    next hs =>
      cases hq : l.txq with
      | nil => rfl
      | cons x xs => exact absurd hq (hne x xs hs)
    next => rfl

theorem Liu.displaceable_eq (l : Liu) :
    l.displaceable = (removeLastNormal l.notInTransmission).map fun p => (p.1, l.inTransmission ++ p.2) := by
  unfold Liu.displaceable Liu.inTransmission Liu.notInTransmission
  split
  next hs hq => simp [hs, hq]
  next hne =>
    split
    next hs =>
      cases hq : l.txq with
      | nil => rfl
      | cons x xs => exact absurd hq (hne x xs hs)
    next => simp

/-- With another frame ahead of it, the last frame of the queue is not in transmission. -/
theorem Liu.notInTransmission_concat {l : Liu} {others : List TxEntry} {x : TxEntry} (hq : l.txq = others ++ [x])
    (hne : others ≠ []) :
    l.notInTransmission = { l with txq := others }.notInTransmission ++ [x] ∧
      l.inTransmission = { l with txq := others }.inTransmission := by
  obtain ⟨y, ys, rfl⟩ := List.exists_cons_of_ne_nil hne
  unfold Liu.notInTransmission Liu.inTransmission
  simp only [hq]
  split <;> exact ⟨rfl, rfl⟩

/-! ## The sending order (R13) -/

theorem classOrdered_of_concat {q : List TxEntry} {x : TxEntry} (h : classOrdered (q ++ [x])) : classOrdered q := by
  induction q with
  | nil => trivial
  | cons y ys ih => exact ⟨fun hy z hz => h.1 hy z (List.mem_append_left _ hz), ih h.2⟩

/-- Where the last frame is URGENT, every frame of the queue is. -/
theorem urgent_of_classOrdered_concat {q : List TxEntry} {x : TxEntry} (h : classOrdered (q ++ [x]))
    (hx : x.frame.urgent = true) : ∀ y ∈ q ++ [x], y.frame.urgent = true := by
  induction q with
  | nil => simpa using hx
  | cons z zs ih =>
    obtain ⟨hz, hzs⟩ := h
    have head : z.frame.urgent = true := by
      by_contra hn
      have last := hz (by simpa using hn) x (by simp)
      simp [hx] at last
    simpa [head] using ih hzs

/-- A joining frame stands behind every frame of its class: a NORMAL one joins at the end, an URGENT one ahead of NORMAL frames alone. -/
theorem insertByClass_eq_append (e : TxEntry) {q : List TxEntry} (h : classOrdered q) :
    ∃ front back, q = front ++ back ∧ insertByClass e q = front ++ e :: back ∧
      (∀ x ∈ back, x.frame.urgent = false ∧ e.frame.urgent = true) ∧
      (e.frame.urgent = true → ∀ x ∈ front, x.frame.urgent = true) := by
  induction q with
  | nil => exact ⟨[], [], rfl, rfl, by simp, by simp⟩
  | cons x xs ih =>
    obtain ⟨hx, hxs⟩ := h
    by_cases hc : e.frame.urgent ∧ ¬ x.frame.urgent
    · obtain ⟨he, hn⟩ := hc
      have hn : x.frame.urgent = false := by simpa using hn
      refine ⟨[], x :: xs, rfl, by simp [insertByClass, he, hn], fun y hy => ⟨?_, he⟩, by simp⟩
      rcases List.mem_cons.1 hy with rfl | hy
      · exact hn
      · exact hx hn y hy
    · obtain ⟨front, back, rfl, hins, hback, hfront⟩ := ih hxs
      refine ⟨x :: front, back, rfl, by simp only [insertByClass, if_neg hc, hins, List.cons_append], hback, fun he y hy => ?_⟩
      rcases List.mem_cons.1 hy with rfl | hy
      · simpa [he] using hc
      · exact hfront he y hy

/-! ## The NORMAL frame posted most recently (R14) -/

theorem removeLastNormal_concat {q : List TxEntry} {x : TxEntry} (hx : x.frame.urgent = false) :
    removeLastNormal (q ++ [x]) = some (x, q) := by
  induction q with
  | nil => simp [removeLastNormal, hx]
  | cons y ys ih => simp [removeLastNormal, ih]

theorem removeLastNormal_eq_none {q : List TxEntry} (h : ∀ x ∈ q, x.frame.urgent = true) : removeLastNormal q = none := by
  induction q with
  | nil => rfl
  | cons y ys ih => simp [removeLastNormal, ih fun x hx => h x (List.mem_cons_of_mem _ hx), h y]

theorem Liu.displaceable_of_normal_last {l : Liu} {others : List TxEntry} {x : TxEntry} (hq : l.txq = others ++ [x])
    (hne : others ≠ []) (hx : x.frame.urgent = false) : l.displaceable = some (x, others) := by
  obtain ⟨hbehind, hsent⟩ := Liu.notInTransmission_concat hq hne
  rw [Liu.displaceable_eq, hbehind, hsent, removeLastNormal_concat hx, Option.map_some, ← Liu.txq_eq_append]

theorem Liu.displaceable_of_urgent_last {l : Liu} {others : List TxEntry} {x : TxEntry} (hq : l.txq = others ++ [x])
    (hne : others ≠ []) (hx : x.frame.urgent = true) (ho : l.ordered) : l.displaceable = none := by
  obtain ⟨hbehind, -⟩ := Liu.notInTransmission_concat hq hne
  rw [Liu.ordered_iff, hbehind] at ho
  rw [Liu.displaceable_eq, hbehind, removeLastNormal_eq_none (urgent_of_classOrdered_concat ho hx), Option.map_none]

/-- The queue stays in sending order when its last frame leaves it. -/
theorem Liu.ordered_of_concat {l : Liu} {others : List TxEntry} {x : TxEntry} (hq : l.txq = others ++ [x])
    (hne : others ≠ []) (ho : l.ordered) : { l with txq := others }.ordered := by
  rw [Liu.ordered_iff, (Liu.notInTransmission_concat hq hne).1] at ho
  exact classOrdered_of_concat ho

/-! ## Joining (R13, R18, R19) -/

@[simp] theorem Liu.headChanged_counters (l : Liu) : l.headChanged.counters = l.counters := by
  unfold Liu.headChanged; split
  · split <;> simp
  · split <;> rfl
  · rfl

@[simp] theorem Liu.headChanged_heldSpan (l : Liu) : l.headChanged.heldSpan = l.heldSpan := by
  unfold Liu.headChanged; split
  · split <;> simp
  · split <;> rfl
  · rfl

@[simp] theorem Liu.join_txq (l : Liu) (e : TxEntry) : (l.join e).txq = l.insert e := by
  unfold Liu.join; dsimp only; split
  · simp
  · split <;> simp
  · rfl

@[simp] theorem Liu.join_counters (l : Liu) (e : TxEntry) : (l.join e).counters = l.counters := by
  unfold Liu.join; dsimp only; split
  · simp
  · split <;> simp
  · rfl

@[simp] theorem Liu.join_heldSpan (l : Liu) (e : TxEntry) : (l.join e).heldSpan = l.heldSpan := by
  unfold Liu.join; dsimp only; split
  · simp
  · split <;> simp
  · rfl

/-- The place between `front` and `back` is the last of the class of `f`: behind it stand NORMAL frames alone, and only where `f` is
URGENT, which has URGENT frames and a frame in transmission alone ahead of it (R13). -/
def Liu.LastOfClass (l : Liu) (f : Frame) (front back : List TxEntry) : Prop :=
  (∀ x ∈ back, x.frame.urgent = false ∧ f.urgent = true) ∧
    (f.urgent = true → ∀ x ∈ front, x.frame.urgent = true ∨ (l.access = .sending ∧ l.txq.head? = some x))

theorem Liu.insert_lastOfClass {l : Liu} (e : TxEntry) (ho : l.ordered) :
    ∃ front back, l.txq = front ++ back ∧ l.insert e = front ++ e :: back ∧ l.LastOfClass e.frame front back := by
  obtain ⟨front, back, hq, hins, hback, hfront⟩ := insertByClass_eq_append e (l.ordered_iff.1 ho)
  refine ⟨l.inTransmission ++ front, back, ?_, ?_, hback, fun he x hx => ?_⟩
  · rw [List.append_assoc, ← hq]; exact l.txq_eq_append
  · rw [l.insert_eq, hins, List.append_assoc]
  · rcases List.mem_append.1 hx with hx | hx
    · exact .inr (Liu.mem_inTransmission hx)
    · exact .inl (hfront he x hx)

/-! ## The four cases of R14 -/

theorem Liu.post_of_room {l : Liu} {e : TxEntry} (h : l.txq.length ≤ 5) : l.post e = (l.join e, none) := by
  simp [Liu.post, h]

theorem Liu.post_of_full_normal {l : Liu} {e : TxEntry} (h : l.txq.length = 6) (he : e.frame.urgent = false) :
    l.post e = (l.countDrop, some e) := by
  simp [Liu.post, h, he]

theorem Liu.post_of_displaced {l : Liu} {e v : TxEntry} {q : List TxEntry} (h : l.txq.length = 6)
    (he : e.frame.urgent = true) (hd : l.displaceable = some (v, q)) :
    l.post e = ({ l.countDrop with txq := q }.join e, some v) := by
  simp [Liu.post, h, he, hd]

theorem Liu.post_of_none_displaced {l : Liu} {e : TxEntry} (h : l.txq.length = 6) (he : e.frame.urgent = true)
    (hd : l.displaceable = none) : l.post e = (l.countDrop, some e) := by
  simp [Liu.post, h, he, hd]

/-- Posting leaves the held SPAN place alone: a held SPAN is no frame of the queue (R15). -/
@[simp] theorem Liu.post_heldSpan (l : Liu) (e : TxEntry) : (l.post e).1.heldSpan = l.heldSpan := by
  unfold Liu.post
  split
  · simp
  · split
    · split
      · simp [Liu.countDrop]
      · rfl
    · rfl

theorem Liu.ne_nil_of_full_concat {l : Liu} {others : List TxEntry} {x : TxEntry} (h : l.txq.length = 6)
    (hq : l.txq = others ++ [x]) : others ≠ [] := by
  rintro rfl
  simp [hq] at h

/-- Case (a): the frame joins as the last of its class, and no frame is dropped. -/
theorem Liu.post_room_places {l : Liu} (e : TxEntry) (h : l.txq.length ≤ 5) (ho : l.ordered) :
    (l.post e).2 = none ∧ (l.post e).1.counters = l.counters ∧
      ∃ front back, l.txq = front ++ back ∧ (l.post e).1.txq = front ++ e :: back ∧ l.LastOfClass e.frame front back := by
  simpa [Liu.post_of_room h] using Liu.insert_lastOfClass e ho

/-- Case (b): the NORMAL frame that stands last is displaced and counted, and the URGENT one joins as the last of its class. -/
theorem Liu.post_displaces_last {l : Liu} {e x : TxEntry} {others : List TxEntry} (h : l.txq.length = 6) (ho : l.ordered)
    (he : e.frame.urgent = true) (hq : l.txq = others ++ [x]) (hx : x.frame.urgent = false) :
    (l.post e).2 = some x ∧ (l.post e).1.counters = l.countDrop.counters ∧
      ∃ front back, others = front ++ back ∧ (l.post e).1.txq = front ++ e :: back ∧ l.LastOfClass e.frame front back := by
  have hne := Liu.ne_nil_of_full_concat h hq
  have hordered : { l.countDrop with txq := others }.ordered := Liu.ordered_of_concat hq hne ho
  obtain ⟨front, back, hsplit, hins, hback, hfront⟩ := Liu.insert_lastOfClass e hordered
  have hhead : l.txq.head? = others.head? := by rw [hq, List.head?_append_of_ne_nil _ hne]
  rw [Liu.post_of_displaced h he (Liu.displaceable_of_normal_last hq hne hx)]
  refine ⟨rfl, by simp, front, back, hsplit, by rw [Liu.join_txq, hins], hback, fun hu y hy => ?_⟩
  rw [hhead]
  exact hfront hu y hy

/-- Case (c): the frame that stands last is URGENT, so none can be displaced and the new one is dropped. -/
theorem Liu.post_of_urgent_last {l : Liu} {e x : TxEntry} {others : List TxEntry} (h : l.txq.length = 6) (ho : l.ordered)
    (he : e.frame.urgent = true) (hq : l.txq = others ++ [x]) (hx : x.frame.urgent = true) :
    l.post e = (l.countDrop, some e) :=
  Liu.post_of_none_displaced h he (Liu.displaceable_of_urgent_last hq (Liu.ne_nil_of_full_concat h hq) hx ho)

/-! ## Withdrawal (R16) -/

/-- With one SPAN at most, taking it out leaves exactly the frames that are no SPAN. -/
theorem removeSpan_eq_filter {q : List TxEntry} (h : (q.filter fun e => e.frame.isSpan).length ≤ 1) :
    removeSpan q = q.filter fun e => e.frame.isSpan = false := by
  induction q with
  | nil => rfl
  | cons x xs ih =>
    cases hx : x.frame.isSpan with
    | true =>
      have none_left : ∀ y ∈ xs, y.frame.isSpan = false := by simpa [hx] using h
      simp only [removeSpan, hx, if_true]
      rw [List.filter_cons_of_neg (by simp [hx]), List.filter_eq_self.2 (by simpa using none_left)]
    | false => simpa [removeSpan, hx] using ih (by simpa [hx] using h)

theorem Liu.withdrawSpan_of_not_inTransmission {l : Liu} (h : l.spanInTransmission = false) :
    l.withdrawSpan.2 = false ∧ l.withdrawSpan.1.heldSpan = none ∧ l.withdrawSpan.1.counters = l.counters ∧
      l.withdrawSpan.1.txq = removeSpan l.txq := by
  unfold Liu.withdrawSpan
  rw [if_neg (by simp [h])]
  dsimp only
  split <;> simp

/-- Settles O8: the four cases of R14, each read off the last frame of a queue in sending order, and the one-SPAN rule. -/
theorem postingAndWithdrawal : Obligations.PostingAndWithdrawal := by
  unfold Obligations.PostingAndWithdrawal
  constructor
  · intro l b f _ hordered e counted place
    obtain ⟨-, -, hbusy, hreceiver, hrxq⟩ := Liu.post_sameRx l e
    refine ⟨fun hroom => Liu.post_room_places e hroom hordered, Liu.post_of_full_normal (e := e), ?_,
      hrxq, hreceiver, hbusy, Liu.post_heldSpan l e⟩
    intro hfull hurgent others x hq
    exact ⟨Liu.post_displaces_last (e := e) hfull hordered hurgent hq,
      Liu.post_of_urgent_last (e := e) hfull hordered hurgent hq⟩
  · intro l f
    refine ⟨fun hs => by simp [Liu.postSpan, hs], fun hs => by simp [Liu.withdrawSpan, hs], fun hs => ?_⟩
    obtain ⟨hanswer, hheld, hcounters, htxq⟩ := Liu.withdrawSpan_of_not_inTransmission hs
    exact ⟨hanswer, hheld, hcounters, fun hone => by rw [htxq, removeSpan_eq_filter hone]⟩

end Sys2Proof.Machine
end

section
/-! Counting the burst on CHAIN-IN (R49): one equation per thing the station does at a rise, a fall and 10 quiet pulse-times. -/

namespace Sys2Proof.Machine

/-! ## The chain's commands act on the station alone -/

theorem exec_chainInRise (s : State) : exec .chainInRise s = .next { s with station := s.station.onChainInRise } := by
  rfl

theorem exec_chainInFall (s : State) : exec .chainInFall s = .next { s with station := s.station.onChainInFall } := by
  rfl

theorem exec_chainInQuiet (s : State) : exec .chainInQuiet s = .next { s with station := s.station.onChainInQuiet } := by
  rfl

/-! ## A change of CHAIN-IN's level -/

/-- A rise from the inactive level: Station Control changes in the count alone, and only while the station counts a burst. -/
theorem Station.onChainInRise_of_inactive {s : Station} (h : s.pins.chainIn = false) :
    s.onChainInRise = { s.chainLevel true with
      ctl := if s.ctl.mode = .ordering ∧ s.ctl.armed = true then { s.ctl with pulses := s.ctl.pulses + 1 } else s.ctl } := by
  unfold Station.onChainInRise
  rw [if_neg (by simp [h])]
  by_cases counting : s.ctl.mode = .ordering ∧ s.ctl.armed = true
  · simp only [if_pos counting, Station.chainLevel_ctl]
  · simp only [if_neg counting]
    rfl

/-! ## 10 quiet pulse-times in ORDERING -/

section Quiet
variable {s : Station} (ordering : s.ctl.mode = .ordering) (quiet : s.pins.chainIn = false)
include ordering quiet

theorem Station.onChainInQuiet_of_unarmed (armed : s.ctl.armed = false) :
    s.onChainInQuiet = { s with ctl := { s.ctl with armed := true } } := by
  unfold Station.onChainInQuiet
  rw [if_pos ⟨ordering, quiet⟩, if_pos armed]

/-- Armed, the station takes the quiet as the end of a burst according to the count alone. -/
theorem Station.onChainInQuiet_of_armed (armed : s.ctl.armed = true) :
    s.onChainInQuiet =
      if s.ctl.pulses = 0 then s else if s.ctl.pulses < s.cv.n then s.takeIndex s.ctl.pulses else s.orderFailed := by
  unfold Station.onChainInQuiet
  rw [if_pos ⟨ordering, quiet⟩, if_neg (by simp [armed])]

theorem Station.onChainInQuiet_before_burst (armed : s.ctl.armed = true) (uncounted : s.ctl.pulses = 0) :
    s.onChainInQuiet = s := by
  rw [Station.onChainInQuiet_of_armed ordering quiet armed, if_pos uncounted]

theorem Station.onChainInQuiet_burst_below (armed : s.ctl.armed = true) (counted : 1 ≤ s.ctl.pulses)
    (below : s.ctl.pulses < s.cv.n) : s.onChainInQuiet = s.takeIndex s.ctl.pulses := by
  rw [Station.onChainInQuiet_of_armed ordering quiet armed, if_neg (Nat.ne_of_gt counted), if_pos below]

theorem Station.onChainInQuiet_burst_beyond (armed : s.ctl.armed = true) (counted : 1 ≤ s.ctl.pulses)
    (beyond : s.cv.n ≤ s.ctl.pulses) : s.onChainInQuiet = (s.enterOffline .orderFailed).seed := by
  rw [Station.onChainInQuiet_of_armed ordering quiet armed, if_neg (Nat.ne_of_gt counted), if_neg (Nat.not_lt.2 beyond)]
  rfl

end Quiet

/-- Settles O16: R49 case by case, a rise and a fall by the level alone, the quiet by whether the station is armed and its count. -/
theorem chainCountsTheBurst : Obligations.ChainCountsTheBurst := by
  unfold Obligations.ChainCountsTheBurst
  intro s
  refine ⟨fun inactive => ?rise, ?fall, fun ordering quiet => ?quiet⟩
  case rise => rw [exec_chainInRise, Station.onChainInRise_of_inactive inactive]; rfl
  case fall => exact exec_chainInFall s
  case quiet =>
    rw [exec_chainInQuiet]
    refine ⟨fun armed => ?_, fun armed uncounted => ?_, fun armed counted below => ?_, fun armed counted beyond => ?_⟩
    · rw [Station.onChainInQuiet_of_unarmed ordering quiet armed]
    · rw [Station.onChainInQuiet_before_burst ordering quiet armed uncounted]
    · rw [Station.onChainInQuiet_burst_below ordering quiet armed counted below]
    · rw [Station.onChainInQuiet_burst_beyond ordering quiet armed counted beyond]

end Sys2Proof.Machine
end

section
/-! The rail's figures: the bands and the nearest band position (R63, R64), the travel estimate as the fewest whole ticks (R69) and the
conflict test (R75). -/

namespace Sys2Proof.Machine

/-! ## The bands (R63) -/

section Bands
variable {c : ConfigValues} {k : Nat}

/-- The pitches west of a band and those east of it are together n - 1. -/
theorem ConfigValues.pitches_west_add_east (hk : k < c.n) : k * c.D + (c.n - 1 - k) * c.D = (c.n - 1) * c.D := by
  rw [← Nat.add_mul, Nat.add_sub_cancel' (Nat.le_sub_one_of_lt hk)]

/-- Every band has one width: the rail's less n - 1 pitches, which R46 keeps from falling below 0. -/
theorem ConfigValues.bandHi_eq_bandLo_add (hk : k < c.n) (hrail : c.railLo ≤ c.railHi)
    (hfit : (c.n - 1) * c.D ≤ c.railHi - c.railLo) :
    c.bandHi k = c.bandLo k + (c.railHi - c.railLo - (c.n - 1) * c.D) := by
  have split := ConfigValues.pitches_west_add_east hk
  unfold ConfigValues.bandHi ConfigValues.bandLo
  omega

theorem ConfigValues.bandLo_succ (c : ConfigValues) (k : Nat) : c.bandLo (k + 1) = c.bandLo k + c.D := by
  simp only [ConfigValues.bandLo, Nat.succ_mul, Nat.add_assoc]

/-! ## The nearest band position (R64) -/

theorem ConfigValues.inBand_iff {x : Nat} : c.inBand k x = true ↔ c.bandLo k ≤ x ∧ x ≤ c.bandHi k := by
  simp [ConfigValues.inBand]

theorem ConfigValues.nearest_of_west {x : Nat} (h : x < c.bandLo k) : c.nearest k x = c.bandLo k := if_pos h

theorem ConfigValues.nearest_of_inBand {x : Nat} (h : c.inBand k x = true) : c.nearest k x = x := by
  obtain ⟨hwest, heast⟩ := ConfigValues.inBand_iff.1 h
  rw [ConfigValues.nearest, if_neg (Nat.not_lt.2 hwest), if_neg (Nat.not_lt.2 heast)]

section Nonempty
variable (hband : c.bandLo k ≤ c.bandHi k)
include hband

theorem ConfigValues.nearest_of_east {x : Nat} (h : c.bandHi k < x) : c.nearest k x = c.bandHi k := by
  rw [ConfigValues.nearest, if_neg (Nat.not_lt.2 (Nat.le_trans hband (Nat.le_of_lt h))), if_pos h]

/-- A position is west of the band, east of it or inside it. -/
theorem ConfigValues.inBand_nearest (x : Nat) : c.inBand k (c.nearest k x) = true := by
  by_cases west : x < c.bandLo k
  · rw [ConfigValues.nearest_of_west west]
    exact ConfigValues.inBand_iff.2 ⟨Nat.le_refl _, hband⟩
  by_cases east : c.bandHi k < x
  · rw [ConfigValues.nearest_of_east hband east]
    exact ConfigValues.inBand_iff.2 ⟨hband, Nat.le_refl _⟩
  · have inside : c.inBand k x = true := ConfigValues.inBand_iff.2 ⟨Nat.not_lt.1 west, Nat.not_lt.1 east⟩
    rwa [ConfigValues.nearest_of_inBand inside]

end Nonempty
end Bands

/-! ## The travel estimate (R69) -/

section Travel
variable {c : ConfigValues} {d : Nat}

@[simp] theorem ConfigValues.travel_zero (c : ConfigValues) : c.travel 0 = 0 := rfl

theorem ConfigValues.travel_of_ne_zero (hd : d ≠ 0) : c.travel d = (d + c.V - 1) / c.V + c.R := if_neg hd

/-- Rounding up: the whole ticks are the fewest in which the carriage covers the distance. -/
theorem ConfigValues.travel_eq_least (hV : 1 ≤ c.V) (hd : d ≠ 0) :
    ∃ q, c.travel d = q + c.R ∧ d ≤ q * c.V ∧ (q - 1) * c.V < d := by
  refine ⟨(d + c.V - 1) / c.V, ConfigValues.travel_of_ne_zero hd, ?_, ?_⟩
  · have below_next : d + c.V - 1 < (d + c.V - 1) / c.V * c.V + c.V := Nat.lt_div_mul_add hV
    omega
  · have quotient_le : (d + c.V - 1) / c.V * c.V ≤ d + c.V - 1 := Nat.div_mul_le_self _ _
    rw [Nat.sub_one_mul]
    omega

/-- At 1 mm a tick or faster, a travel takes no more ticks than it has millimetres, and the ramp. -/
theorem ConfigValues.travel_le (hV : 1 ≤ c.V) (d : Nat) : c.travel d ≤ d + c.R := by
  by_cases hd : d = 0
  · simp [hd]
  · obtain ⟨q, hq, -, fewest⟩ := ConfigValues.travel_eq_least hV hd
    have tick_covers : q - 1 ≤ (q - 1) * c.V := Nat.le_mul_of_pos_right _ hV
    omega

theorem ConfigValues.travel_one (hV : 1 ≤ c.V) : c.travel 1 = 1 + c.R := by
  rw [ConfigValues.travel_of_ne_zero Nat.one_ne_zero, Nat.add_sub_cancel_left, Nat.div_self hV]

end Travel

/-! ## The conflict test (R75) -/

theorem ConfigValues.conflict_eq_false_iff {c : ConfigValues} {a1 b1 a2 b2 : Nat} :
    c.conflict a1 b1 a2 b2 = false ↔ b1 + c.G ≤ a2 ∨ b2 + c.G ≤ a1 := by
  simp only [ConfigValues.conflict, Bool.not_eq_false', Bool.or_eq_true, decide_eq_true_eq]

theorem ConfigValues.conflict_comm (c : ConfigValues) (a1 b1 a2 b2 : Nat) :
    c.conflict a1 b1 a2 b2 = c.conflict a2 b2 a1 b1 := by
  rw [ConfigValues.conflict, ConfigValues.conflict, Bool.or_comm]

/-- Settles O21: the bands from their common width, the travel estimate from the quotient's two bounds, the conflict test from its two cases. -/
theorem bandsTravelAndConflict : Obligations.BandsTravelAndConflict := by
  unfold Obligations.BandsTravelAndConflict
  refine ⟨?bands, ConfigValues.travel_zero, fun c d => ConfigValues.travel_eq_least, fun c => ConfigValues.travel_one, ?figures,
    ?largest, ?attained, fun c a1 b1 a2 b2 => ⟨ConfigValues.conflict_eq_false_iff, c.conflict_comm a1 b1 a2 b2⟩⟩
  case bands =>
    intro c k _ hk hrail hfit
    have width {j : Nat} (hj : j < c.n) := ConfigValues.bandHi_eq_bandLo_add hj hrail hfit
    have nonempty : c.bandLo k ≤ c.bandHi k := Nat.le.intro (width hk).symm
    refine ⟨rfl, rfl, rfl, nonempty, Nat.sub_eq_of_eq_add' (width hk), fun hnext => ⟨c.bandLo_succ k, ?_⟩, fun x =>
      ⟨ConfigValues.inBand_iff, ConfigValues.inBand_nearest nonempty x, ConfigValues.nearest_of_inBand,
        ConfigValues.nearest_of_west, ConfigValues.nearest_of_east nonempty⟩⟩
    rw [width hnext, width hk, c.bandLo_succ, Nat.add_right_comm]
  case figures =>
    intro c hV hR
    simp [ConfigValues.travel, hV, hR]
  case largest =>
    intro c d hV hR hd
    exact Nat.le_trans (ConfigValues.travel_le hV d) (Nat.add_le_add hd hR)
  case attained =>
    intro c hV hR
    simp [ConfigValues.travel, hV, hR]

end Sys2Proof.Machine
end

section
/-! A DONE is accounted (R176 to R182, R185, R189). What an increment does to the retained store is an operation of the store alone, so that
the store after a DONE is one equation over the increments the DONE makes. That CLEAN-DUE stands after a call for it needs only that no
operation of the Prompt Unit takes a subject's record away. -/

namespace Sys2Proof.Machine

/-! ## The place of an increment in the live account table (R176, R177) -/

theorem inc16_eq_min (a : Nat) : inc16 a = min (a + 1) 65535 := rfl

/-- Counting on a 16-bit counter once for each of `k` events saturates as one addition does. -/
theorem inc16_iterate {a : Nat} (h : a ≤ 65535) (k : Nat) : inc16^[k] a = min (a + k) 65535 := by
  induction k with
  | zero => simpa using h
  | succ k ih => rw [Function.iterate_succ_apply', ih, inc16_eq_min]; omega

theorem ite_inc16_eq_min {n : Nat} (h : n ≤ 65535) (b : Bool) : (if b then inc16 n else n) = min (n + b.toNat) 65535 := by
  cases b
  · simpa using h
  · rfl

theorem Slot.add_occupancy (x : Slot) (a sec : Nat) :
    x.add (.occupancy a sec) = { x with seconds := min (x.seconds + sec) 16777215 } := rfl

/-- The bounds on the counts matter where a flag is clear: that count stays as it is. -/
theorem Slot.add_mount {x : Slot} (a : Nat) (ring assisted : Bool) (hring : x.ring ≤ 65535) (hassisted : x.assisted ≤ 65535) :
    x.add (.mount a ring assisted) = { x with mounts := min (x.mounts + 1) 65535, ring := min (x.ring + ring.toNat) 65535,
                                              assisted := min (x.assisted + assisted.toNat) 65535 } := by
  rw [Slot.add, ite_inc16_eq_min hring, ite_inc16_eq_min hassisted, inc16_eq_min]

section ChargeFirst
variable {p : Slot → Bool} {f : Slot → Slot}

theorem chargeFirst_eq_none {l : List Slot} (h : ∀ u ∈ l, p u = false) : chargeFirst p f l = none := by
  induction l with
  | nil => rfl
  | cons u us ih => simp [chargeFirst, h u, ih fun v hv => h v (List.mem_cons_of_mem _ hv)]

theorem chargeFirst_append {front back : List Slot} {x : Slot} (h : ∀ u ∈ front, p u = false) (hx : p x = true) :
    chargeFirst p f (front ++ x :: back) = some (front ++ f x :: back) := by
  induction front with
  | nil => simp [chargeFirst, hx]
  | cons u us ih => simp [chargeFirst, h u, ih fun v hv => h v (List.mem_cons_of_mem _ hv)]

end ChargeFirst

section Charge
variable {t : AccountTable} {i : Increment} {front back : List Slot} {x : Slot}

theorem AccountTable.charge_of_held (ht : t.slots = front ++ x :: back) (hx : x.account = some i.account)
    (hfront : ∀ u ∈ front, u.account ≠ some i.account) :
    t.charge i = ({ t with slots := front ++ x.add i :: back }, false) := by
  have held : chargeSlots i t.slots = some (front ++ x.add i :: back) := by
    rw [chargeSlots, ht, chargeFirst_append (by simpa using hfront) (by simpa using hx)]
  rw [AccountTable.charge, held]

theorem AccountTable.charge_of_empty (ht : t.slots = front ++ x :: back) (hnone : ∀ u ∈ t.slots, u.account ≠ some i.account)
    (hx : x.account = none) (hfront : ∀ u ∈ front, u.account ≠ none) :
    t.charge i = ({ t with slots := front ++ Slot.add { x with account := some i.account } i :: back }, false) := by
  have empty : chargeSlots i t.slots = some (front ++ Slot.add { x with account := some i.account } i :: back) := by
    rw [chargeSlots, chargeFirst_eq_none (by simpa using hnone)]
    dsimp only
    rw [ht, chargeFirst_append (fun u hu => beq_eq_false_iff_ne.2 (hfront u hu)) (by simpa using hx)]
  rw [AccountTable.charge, empty]

theorem AccountTable.charge_of_full (h : ∀ u ∈ t.slots, u.account ≠ none ∧ u.account ≠ some i.account) :
    t.charge i = ({ t with overflow := t.overflow.add i }, decide (i.account ≠ 4095)) := by
  have full : chargeSlots i t.slots = none := by
    rw [chargeSlots, chargeFirst_eq_none fun u hu => beq_eq_false_iff_ne.2 (h u hu).2]
    exact chargeFirst_eq_none fun u hu => beq_eq_false_iff_ne.2 (h u hu).1
  rw [AccountTable.charge, full]
  exact congrArg _ (Bool.eq_iff_iff.2 (by simp))

end Charge

/-! ## Prompts leave Station Control and the retained store alone (R152 to R172, R189) -/

@[simp] theorem Station.callFor_store (s : Station) (x : Subject) : (s.callFor x).store = s.store :=
  congrArg Base.store (s.callFor_basis x)

@[simp] theorem Station.callFor_ctl (s : Station) (x : Subject) : (s.callFor x).ctl = s.ctl :=
  congrArg Base.ctl (s.callFor_basis x)

@[simp] theorem Station.causeGone_store (s : Station) (x : Subject) : (s.causeGone x).store = s.store :=
  congrArg Base.store (s.causeGone_basis x)

@[simp] theorem Station.causeGone_ctl (s : Station) (x : Subject) : (s.causeGone x).ctl = s.ctl :=
  congrArg Base.ctl (s.causeGone_basis x)

/-! ## The Accounting Unit's records through the Prompt Unit's operations (R189)

Posting, with its report of a drop, and the choice of the entry SHOWN leave the records as they are; a raise changes a record's status at
most, so that every subject keeps its record. -/

@[simp] theorem Station.handOver_acc (s : Station) (t : Tag) : (s.handOver t).acc = s.acc := by
  unfold Station.handOver; split <;> rfl

@[simp] theorem Station.leaveOwned_acc (s : Station) (t : Tag) : (s.leaveOwned t).acc = s.acc := by
  unfold Station.leaveOwned; dsimp only; split
  · split <;> simp
  · rfl

@[simp] theorem Station.ownToRest_acc (s : Station) : s.ownToRest.acc = s.acc := by
  unfold Station.ownToRest; split <;> rfl

@[simp] theorem Station.takeDropped_acc (s : Station) (t : Tag) (c : Nat) : (s.takeDropped t c).acc = s.acc := by
  unfold Station.takeDropped; split
  · split <;> simp
  · rfl

@[simp] theorem Station.spanDropped_acc (s : Station) (b : Bool) : (s.spanDropped b).acc = s.acc := by
  unfold Station.spanDropped; split <;> simp

@[simp] theorem Station.reportDrop_acc (s : Station) (f : Frame) (l : List Frame) : (s.reportDrop f l).acc = s.acc := by
  unfold Station.reportDrop; dsimp only
  repeat' split
  all_goals simp

@[simp] theorem Station.post_acc (s : Station) (b : Block) (n : Nat) (m : Msg) : (s.post b n m).acc = s.acc := by
  unfold Station.post Station.settle; split
  · rfl
  · rw [Station.reportDrop_acc]

@[simp] theorem Station.statePrompt_acc (s : Station) (n : Nat) : (s.statePrompt n).acc = s.acc := by
  unfold Station.statePrompt; dsimp only; split <;> simp

@[simp] theorem Station.showPrompt_acc (s : Station) (n : Nat) : (s.showPrompt n).acc = s.acc := by
  simp [Station.showPrompt]

@[simp] theorem Station.chooseShown_acc (s : Station) : s.chooseShown.acc = s.acc := by
  unfold Station.chooseShown; split <;> simp

@[simp] theorem Station.postClear_acc (s : Station) (n : Nat) (r : ClearReason) : (s.postClear n r).acc = s.acc := by
  simp [Station.postClear]

@[simp] theorem Station.preempt_acc (s : Station) (m n : Nat) : (s.preempt m n).acc = s.acc := by
  simp [Station.preempt]

@[simp] theorem Station.offerShown_acc (s : Station) (n : Nat) (l : Level) : (s.offerShown n l).acc = s.acc := by
  unfold Station.offerShown; split
  · simp
  · split <;> simp

@[simp] theorem Station.leavePrompt_acc (s : Station) (n : Nat) (r : ClearReason) : (s.leavePrompt n r).acc = s.acc := by
  unfold Station.leavePrompt; split
  · rfl
  · dsimp only; repeat' split
    all_goals simp

@[simp] theorem Station.acceptRaise_acc (s : Station) (k : PromptKind) (f : PromptFields) : (s.acceptRaise k f).1.acc = s.acc := by
  simp [Station.acceptRaise]

/-- The subjects that have a record. -/
def Station.subjects (s : Station) : List Subject := s.acc.map (·.subject)

theorem Station.subjects_of_acc {s t : Station} (h : t.acc = s.acc) : t.subjects = s.subjects := by
  rw [Station.subjects, h, Station.subjects]

theorem Station.mem_subjects {s : Station} {x : Subject} : x ∈ s.subjects ↔ ∃ r ∈ s.acc, r.subject = x := List.mem_map

theorem AccRecord.onDisplaced_subject (r : AccRecord) : r.onDisplaced.subject = r.subject := by
  unfold AccRecord.onDisplaced; split <;> rfl

/-- Changing some records, each within its own subject, keeps the subjects. -/
theorem map_ite_subject (c : AccRecord → Prop) [DecidablePred c] {f : AccRecord → AccRecord} (hf : ∀ r, (f r).subject = r.subject)
    (l : List AccRecord) : (l.map fun r => if c r then f r else r).map (·.subject) = l.map (·.subject) := by
  rw [List.map_map]
  refine List.map_congr_left fun r _ => ?_
  dsimp only [Function.comp]
  split
  · exact hf r
  · rfl

@[simp] theorem Station.setStatus_subjects (s : Station) (x : Subject) (a : AccStatus) :
    (s.setAcc x fun r => { r with status := a }).subjects = s.subjects :=
  map_ite_subject (f := fun r => { r with status := a }) _ (fun _ => rfl) s.acc

@[simp] theorem Station.toldDisplaced_subjects (s : Station) (e : PromptEntry) : (s.toldDisplaced e).subjects = s.subjects := by
  unfold Station.toldDisplaced; split
  · exact map_ite_subject _ AccRecord.onDisplaced_subject s.acc
  · rfl

@[simp] theorem Station.raise_subjects (s : Station) (k : PromptKind) (f : PromptFields) :
    (s.raise k f).1.subjects = s.subjects := by
  unfold Station.raise; dsimp only
  split
  · exact Station.subjects_of_acc (Station.acceptRaise_acc s k f)
  · split
    next v _ =>
      calc (((s.leavePrompt v.num .withdrawn).toldDisplaced v).acceptRaise k f).1.subjects
          = ((s.leavePrompt v.num .withdrawn).toldDisplaced v).subjects := Station.subjects_of_acc (Station.acceptRaise_acc _ k f)
        _ = (s.leavePrompt v.num .withdrawn).subjects := Station.toldDisplaced_subjects _ v
        _ = s.subjects := Station.subjects_of_acc (Station.leavePrompt_acc s _ _)
    next => rfl

/-! ## A prompt called for (R189) -/

/-- The status that the answer to a raise gives the record. -/
def AccStatus.ofRaise : Option Nat → AccStatus
  | .some num => .raised num
  | .none => .wanted

theorem AccStatus.ofRaise_ne_none (o : Option Nat) : AccStatus.ofRaise o ≠ .none := by
  cases o <;> simp [AccStatus.ofRaise]

theorem Station.raiseSubject_eq (s : Station) (x : Subject) :
    s.raiseSubject x = (s.raise x.kind x.fields).1.setAcc x fun r =>
      { r with status := AccStatus.ofRaise (s.raise x.kind x.fields).2 } := by
  unfold Station.raiseSubject
  split
  all_goals
    rename_i h
    rw [h]
    rfl

theorem Station.callFor_of_ne {s : Station} {x : Subject} (h : s.accStatus x ≠ .none) : s.callFor x = s := if_neg h

theorem Station.callFor_of_eq {s : Station} {x : Subject} (h : s.accStatus x = .none) : s.callFor x = s.raiseSubject x := if_pos h

@[simp] theorem Station.callFor_subjects (s : Station) (x : Subject) : (s.callFor x).subjects = s.subjects := by
  by_cases h : s.accStatus x = .none
  · rw [Station.callFor_of_eq h, Station.raiseSubject_eq, Station.setStatus_subjects, Station.raise_subjects]
  · rw [Station.callFor_of_ne h]

/-- A subject that has a record takes the status its record is given. -/
theorem Station.accStatus_setAcc {s : Station} {x : Subject} (h : x ∈ s.subjects) (a : AccStatus) :
    (s.setAcc x fun r => { r with status := a }).accStatus x = a := by
  unfold Station.accStatus
  have again : x ∈ (s.setAcc x fun r => { r with status := a }).subjects := by rwa [Station.setStatus_subjects]
  obtain ⟨r, hr, hx⟩ := Station.mem_subjects.1 again
  split
  next r hfound =>
    obtain ⟨r0, -, rfl⟩ := List.mem_map.1 (List.mem_of_find?_eq_some hfound)
    have subject := List.find?_some hfound
    by_cases own : r0.subject = x
    · simp [own]
    · simp [own] at subject
  next hnone => exact absurd hx (by simpa using List.find?_eq_none.1 hnone r hr)

/-- What is called for is raised or wanted, or was already. -/
theorem Station.callFor_accStatus_ne_none {s : Station} {x : Subject} (h : x ∈ s.subjects) : (s.callFor x).accStatus x ≠ .none := by
  by_cases hs : s.accStatus x = .none
  · rw [Station.callFor_of_eq hs, Station.raiseSubject_eq, Station.accStatus_setAcc (by rwa [Station.raise_subjects])]
    exact AccStatus.ofRaise_ne_none _
  · rwa [Station.callFor_of_ne hs]

/-! ## An increment (R176, R177, R185) -/

/-- The station with its live table charged, and the accounts-full mark as it was. -/
def Station.charged (s : Station) (i : Increment) : Station := { s with store := s.store.chargeQuiet i }

/-- The accounts-full mark set (R176). -/
def Station.markFull (s : Station) : Station := { s with store := { s.store with accountsFull := true } }

theorem Station.chargeLive_of_quiet {s : Station} {i : Increment}
    (h : (s.store.table.charge i).2 = false ∨ s.store.accountsFull = true) : s.chargeLive i = s.charged i := by
  unfold Station.chargeLive
  exact if_neg (by rcases h with h | h <;> simp [h])

theorem Station.chargeLive_of_overflow {s : Station} {i : Increment} (h : (s.store.table.charge i).2 = true)
    (unmarked : s.store.accountsFull = false) : s.chargeLive i = (s.charged i).markFull.callFor .accountsFull := by
  unfold Station.chargeLive
  exact if_pos (by simp [h, unmarked])

/-- What an increment does to the retained store, the prompt it may call for apart. -/
def RetainedStore.increment (st : RetainedStore) (i : Increment) : RetainedStore :=
  if st.closeBusy then
    if st.pendingIncs.length ≤ 7 then { st with pendingIncs := st.pendingIncs ++ [i] }
    else { st with losses := inc16 st.losses }
  else { st with table := (st.table.charge i).1, accountsFull := st.accountsFull || (st.table.charge i).2 }

theorem Station.chargeLive_store (s : Station) (i : Increment) :
    (s.chargeLive i).store =
      { s.store with table := (s.store.table.charge i).1, accountsFull := s.store.accountsFull || (s.store.table.charge i).2 } := by
  by_cases h : (s.store.table.charge i).2 = false ∨ s.store.accountsFull = true
  · rw [Station.chargeLive_of_quiet h]
    rcases h with h | h <;> simp [Station.charged, RetainedStore.chargeQuiet, h]
  · obtain ⟨overflow, unmarked⟩ : (s.store.table.charge i).2 = true ∧ s.store.accountsFull = false := by simpa using h
    rw [Station.chargeLive_of_overflow overflow unmarked, Station.callFor_store, overflow, Bool.or_true]
    rfl

@[simp] theorem Station.chargeLive_ctl (s : Station) (i : Increment) : (s.chargeLive i).ctl = s.ctl := by
  unfold Station.chargeLive; dsimp only; split
  · rw [Station.callFor_ctl]
  · rfl

theorem Station.chargeLive_now (s : Station) (i : Increment) : (s.chargeLive i).now = s.ctl.second :=
  congrArg Control.second (s.chargeLive_ctl i)

@[simp] theorem Station.chargeLive_subjects (s : Station) (i : Increment) : (s.chargeLive i).subjects = s.subjects := by
  unfold Station.chargeLive; dsimp only; split
  · rw [Station.callFor_subjects]; rfl
  · rfl

theorem Station.increment_of_open {s : Station} (i : Increment) (h : s.store.closeBusy = false) : s.increment i = s.chargeLive i :=
  if_neg (by simp [h])

@[simp] theorem Station.increment_store (s : Station) (i : Increment) : (s.increment i).store = s.store.increment i := by
  unfold Station.increment RetainedStore.increment; split
  · split <;> rfl
  · exact Station.chargeLive_store s i

@[simp] theorem Station.increment_ctl (s : Station) (i : Increment) : (s.increment i).ctl = s.ctl := by
  unfold Station.increment; split
  · split <;> rfl
  · exact Station.chargeLive_ctl s i

@[simp] theorem Station.increment_subjects (s : Station) (i : Increment) : (s.increment i).subjects = s.subjects := by
  unfold Station.increment; split
  · split <;> rfl
  · exact Station.chargeLive_subjects s i

/-! ## The store after a list of increments (R185) -/

/-- The increments made one after the other. -/
def RetainedStore.made (st : RetainedStore) (incs : List Increment) : RetainedStore := incs.foldl RetainedStore.increment st

@[simp] theorem RetainedStore.made_nil (st : RetainedStore) : st.made [] = st := rfl

@[simp] theorem RetainedStore.made_cons (st : RetainedStore) (i : Increment) (is : List Increment) :
    st.made (i :: is) = (st.increment i).made is := rfl

theorem RetainedStore.made_append (st : RetainedStore) (a b : List Increment) : st.made (a ++ b) = (st.made a).made b :=
  List.foldl_append

/-- Increments neither read nor write the drive table and the occupancy list with its count. -/
theorem RetainedStore.increment_with (st : RetainedStore) (i : Increment) (ds : List DriveRecord) (os : List Occupancy) (n : Nat) :
    ({ st with drives := ds, occupancy := os, occEstimated := n } : RetainedStore).increment i =
      { st.increment i with drives := ds, occupancy := os, occEstimated := n } := by
  unfold RetainedStore.increment; dsimp only; split
  · split <;> rfl
  · rfl

theorem RetainedStore.made_with (st : RetainedStore) (incs : List Increment) (ds : List DriveRecord) (os : List Occupancy) (n : Nat) :
    ({ st with drives := ds, occupancy := os, occEstimated := n } : RetainedStore).made incs =
      { st.made incs with drives := ds, occupancy := os, occEstimated := n } := by
  induction incs generalizing st with
  | nil => rfl
  | cons i is ih => rw [RetainedStore.made_cons, RetainedStore.increment_with, ih, RetainedStore.made_cons]

section Made
variable {st : RetainedStore}

theorem RetainedStore.increment_of_open (h : st.closeBusy = false) (i : Increment) :
    st.increment i =
      { st with table := (st.table.charge i).1, accountsFull := st.accountsFull || (st.table.charge i).2 } :=
  if_neg (by simp [h])

theorem RetainedStore.increment_of_room (h : st.closeBusy = true) (room : st.pendingIncs.length ≤ 7) (i : Increment) :
    st.increment i = { st with pendingIncs := st.pendingIncs ++ [i] } := by
  rw [RetainedStore.increment, if_pos h, if_pos room]

theorem RetainedStore.increment_of_full (h : st.closeBusy = true) (full : ¬ st.pendingIncs.length ≤ 7) (i : Increment) :
    st.increment i = { st with losses := inc16 st.losses } := by
  rw [RetainedStore.increment, if_pos h, if_neg full]

theorem RetainedStore.made_of_open (h : st.closeBusy = false) (incs : List Increment) :
    (st.made incs).table = incs.foldl (fun a i => (a.charge i).1) st.table ∧ (st.made incs).pendingIncs = st.pendingIncs := by
  induction incs generalizing st with
  | nil => exact ⟨rfl, rfl⟩
  | cons i is ih =>
    rw [RetainedStore.made_cons, RetainedStore.increment_of_open h]
    exact ih h

/-- During a close the pending list takes increments up to its 8 places, and each one beyond is counted as lost. -/
theorem RetainedStore.made_of_closing (h : st.closeBusy = true) (hlen : st.pendingIncs.length ≤ 8) (incs : List Increment) :
    (st.made incs).table = st.table ∧
      (st.made incs).pendingIncs = st.pendingIncs ++ incs.take (8 - st.pendingIncs.length) ∧
      (st.made incs).losses = inc16^[incs.length - (8 - st.pendingIncs.length)] st.losses := by
  induction incs generalizing st with
  | nil => simp
  | cons i is ih =>
    by_cases room : st.pendingIncs.length ≤ 7
    · have one_less : 8 - st.pendingIncs.length = 8 - (st.pendingIncs.length + 1) + 1 := by omega
      obtain ⟨htable, hpending, hlosses⟩ := ih (st := { st with pendingIncs := st.pendingIncs ++ [i] }) h
        (by rw [List.length_append]; exact Nat.succ_le_succ room)
      rw [RetainedStore.made_cons, RetainedStore.increment_of_room h room, one_less]
      simp only [List.length_append, List.length_singleton, List.append_assoc] at hpending hlosses
      exact ⟨htable, hpending, by simpa using hlosses⟩
    · have full : 8 - st.pendingIncs.length = 0 := by omega
      obtain ⟨htable, hpending, hlosses⟩ := ih (st := { st with losses := inc16 st.losses }) h hlen
      rw [RetainedStore.made_cons, RetainedStore.increment_of_full h room]
      simp only [full, List.take_zero, List.length_cons, Nat.sub_zero] at hpending hlosses ⊢
      exact ⟨htable, hpending, hlosses⟩

/-- Where the increments of a DONE go: the live table, or the pending list, with room for all of them and without. -/
theorem RetainedStore.made_spec (st : RetainedStore) (incs : List Increment) :
    (st.closeBusy = false →
      (st.made incs).table = incs.foldl (fun a i => (a.charge i).1) st.table ∧ (st.made incs).pendingIncs = st.pendingIncs) ∧
    (st.closeBusy = true → st.pendingIncs.length + incs.length ≤ 8 →
      (st.made incs).table = st.table ∧ (st.made incs).pendingIncs = st.pendingIncs ++ incs ∧ (st.made incs).losses = st.losses) ∧
    (st.closeBusy = true → st.pendingIncs.length ≤ 8 →
      (st.made incs).table = st.table ∧ (st.made incs).pendingIncs = st.pendingIncs ++ incs.take (8 - st.pendingIncs.length) ∧
        (st.losses ≤ 65535 →
          (st.made incs).losses = min (st.losses + (incs.length - (8 - st.pendingIncs.length))) 65535)) := by
  refine ⟨fun h => RetainedStore.made_of_open h incs, fun h fits => ?_, fun h hlen => ?_⟩
  · obtain ⟨htable, hpending, hlosses⟩ := RetainedStore.made_of_closing h (by omega) incs
    have all : incs.length ≤ 8 - st.pendingIncs.length := by omega
    rw [List.take_of_length_le all] at hpending
    rw [Nat.sub_eq_zero_of_le all] at hlosses
    exact ⟨htable, hpending, hlosses⟩
  · obtain ⟨htable, hpending, hlosses⟩ := RetainedStore.made_of_closing h hlen incs
    exact ⟨htable, hpending, fun bound => hlosses.trans (inc16_iterate bound _)⟩

end Made

/-! ## The parts of a DONE (R178 to R182) -/

/-- Only a CLEAN ends since-clean. -/
theorem DriveRecord.mounted_of_ne_clean {k : CallKind} (h : k ≠ .clean) :
    DriveRecord.mounted k = fun r => ⟨min (r.mounts + 1) 65535, min (r.sinceClean + 1) 65535⟩ :=
  funext fun _ => congrArg (DriveRecord.mk _) (if_neg h)

@[simp] theorem Station.driveUpdate_ctl (s : Station) (d : Done) : (s.driveUpdate d).ctl = s.ctl := by
  unfold Station.driveUpdate; dsimp only; split
  · split <;> simp
  · rfl

theorem Station.driveUpdate_store {s : Station} {d : Done} (h : d.result = .mounted) :
    (s.driveUpdate d).store = { s.store with drives := s.store.drives.modify d.driveNo (DriveRecord.mounted d.kind) } := by
  unfold Station.driveUpdate; dsimp only; rw [if_pos h]; split <;> simp

/-- The mount counted in the drive's record (R179). -/
def Station.countMount (s : Station) (d : Done) : Station :=
  { s with store := { s.store with drives := s.store.drives.modify d.driveNo (DriveRecord.mounted d.kind) } }

/-- Only a CLEAN takes CLEAN-DUE back. -/
theorem Station.driveUpdate_of_ne_clean {s : Station} {d : Done} (h : d.result = .mounted) (hk : d.kind ≠ .clean) :
    s.driveUpdate d = s.countMount d := by
  rw [Station.driveUpdate, if_pos h]
  exact if_neg hk

/-- The open occupancy entry of a drive (R181: at most one is open). -/
def RetainedStore.openEntry (st : RetainedStore) (drive : Nat) : Option Occupancy := st.occupancy.find? fun o => o.drive == drive

/-- The occupancy list without the entry of a drive. -/
def RetainedStore.closed (st : RetainedStore) (drive : Nat) : List Occupancy := st.occupancy.filter fun o => o.drive != drive

/-- The increments that closing a drive's entry makes: one where an entry is open (R182). -/
def RetainedStore.ends (st : RetainedStore) (drive now : Nat) : List Increment :=
  (st.openEntry drive).toList.map fun o => .occupancy o.account (now - o.opened)

/-- The count of estimated occupancies after a closing that counts (R182). -/
def RetainedStore.estimated (st : RetainedStore) (drive : Nat) : Nat :=
  if (st.openEntry drive).isSome then inc16 st.occEstimated else st.occEstimated

section Close
variable {s : Station} {drive : Nat} {o : Occupancy}

theorem RetainedStore.ends_of_some {st : RetainedStore} (h : st.openEntry drive = some o) (now : Nat) :
    st.ends drive now = [.occupancy o.account (now - o.opened)] := by
  simp [RetainedStore.ends, h]

theorem RetainedStore.ends_of_none {st : RetainedStore} (h : st.openEntry drive = none) (now : Nat) : st.ends drive now = [] := by
  simp [RetainedStore.ends, h]

theorem RetainedStore.closed_of_none {st : RetainedStore} (h : st.openEntry drive = none) : st.closed drive = st.occupancy := by
  refine List.filter_eq_self.2 fun o ho => ?_
  simpa [bne] using List.find?_eq_none.1 h o ho

theorem Station.closeOccupancy_of_none (h : s.store.openEntry drive = none) (estimated : Bool) :
    s.closeOccupancy drive estimated = s := by
  rw [RetainedStore.openEntry] at h
  rw [Station.closeOccupancy, h]

theorem Station.closeOccupancy_of_some (h : s.store.openEntry drive = some o) (estimated : Bool) :
    s.closeOccupancy drive estimated =
      let x : Station := if estimated then { s with store := { s.store with occEstimated := inc16 s.store.occEstimated } } else s
      let y := x.increment (.occupancy o.account (s.ctl.second - o.opened))
      { y with store := { y.store with occupancy := y.store.closed drive } } := by
  rw [RetainedStore.openEntry] at h
  rw [Station.closeOccupancy, h]
  cases estimated <;> rfl

@[simp] theorem Station.closeOccupancy_ctl (s : Station) (drive : Nat) (estimated : Bool) :
    (s.closeOccupancy drive estimated).ctl = s.ctl := by
  cases h : s.store.openEntry drive with
  | none => rw [Station.closeOccupancy_of_none h]
  | some o => rw [Station.closeOccupancy_of_some h]; cases estimated <;> simp

@[simp] theorem Station.closeOccupancy_subjects (s : Station) (drive : Nat) (estimated : Bool) :
    (s.closeOccupancy drive estimated).subjects = s.subjects := by
  cases h : s.store.openEntry drive with
  | none => rw [Station.closeOccupancy_of_none h]
  | some o =>
    rw [Station.closeOccupancy_of_some h]
    cases estimated <;> exact Station.increment_subjects _ _

/-- The store after a closing: where no entry is open it makes no increment and nothing is taken from the list. -/
theorem Station.closeOccupancy_store (s : Station) (drive : Nat) (estimated : Bool) :
    (s.closeOccupancy drive estimated).store =
      { s.store.made (s.store.ends drive s.ctl.second) with
        drives := s.store.drives, occupancy := s.store.closed drive,
        occEstimated := if estimated then s.store.estimated drive else s.store.occEstimated } := by
  cases h : s.store.openEntry drive with
  | none =>
    rw [Station.closeOccupancy_of_none h, RetainedStore.ends_of_none h, RetainedStore.closed_of_none h]
    simp [RetainedStore.estimated, h]
  | some o =>
    rw [Station.closeOccupancy_of_some h, RetainedStore.ends_of_some h]
    have frame := RetainedStore.increment_with s.store (.occupancy o.account (s.ctl.second - o.opened))
      s.store.drives s.store.occupancy
    simp only [Station.increment_store, RetainedStore.estimated, h]
    cases estimated with
    | false =>
      have same := frame s.store.occEstimated
      simp only [Bool.false_eq_true, if_false]
      rw [same]; rfl
    | true =>
      simp only [if_true, Option.isSome_some]
      rw [frame]; rfl

end Close

@[simp] theorem Station.cleanTest_store (s : Station) (d : Done) : (s.cleanTest d).store = s.store := by
  unfold Station.cleanTest; split <;> simp

theorem Station.cleanTest_of_zero {s : Station} (d : Done) (h : s.cv.clean = 0) : s.cleanTest d = s :=
  if_neg fun due => due.2.1 h

/-- A mount that brings since-clean to the threshold calls for CLEAN-DUE (R180). -/
theorem Station.cleanTest_of_due {s : Station} {d : Done} {r : DriveRecord} (hk : d.kind = .mount) (hc : s.cv.clean ≠ 0)
    (hr : s.store.drives[d.driveNo]? = some r) (due : r.sinceClean = s.cv.clean) :
    s.cleanTest d = s.callFor (.cleanDue d.driveNo) :=
  if_pos ⟨hk, hc, by simp [hr, due]⟩

/-! ## The DONE (R178 to R182) -/

/-- The drive's record brought up to date and its entry closed, which every DONE MOUNTED does (R179, R182). -/
def Station.mountCounted (s : Station) (d : Done) : Station := (s.driveUpdate d).closeOccupancy d.driveNo true

/-- The station after its own DONE MOUNTED, before the clean test (R180). -/
def Station.mountCharged (s : Station) (d : Done) : Station :=
  ((s.mountCounted d).increment (.mount d.account d.ring d.assisted)).openOccupancy d.driveNo d.account

section Done
variable {s : Station} {d : Done}

theorem Station.accountDone_of_peer_mounted (h : d.result = .mounted) : s.accountDone false d = s.mountCounted d := if_pos h

theorem Station.accountDone_of_own_mounted (h : d.result = .mounted) : s.accountDone true d = (s.mountCharged d).cleanTest d :=
  if_pos h

theorem Station.accountDone_of_returned (hk : d.kind = .demount) (h : d.result = .returned) (own : Bool) :
    s.accountDone own d = s.closeOccupancy d.driveNo false := by
  rw [Station.accountDone, if_neg (by simp [h]), if_pos ⟨hk, h⟩]

theorem Station.accountDone_of_other (hm : d.result ≠ .mounted) (h : d.kind ≠ .demount ∨ d.result ≠ .returned) (own : Bool) :
    s.accountDone own d = s := by
  rw [Station.accountDone, if_neg hm, if_neg (by tauto)]

@[simp] theorem Station.mountCounted_ctl (s : Station) (d : Done) : (s.mountCounted d).ctl = s.ctl := by
  rw [Station.mountCounted, Station.closeOccupancy_ctl, Station.driveUpdate_ctl]

@[simp] theorem Station.mountCharged_ctl (s : Station) (d : Done) : (s.mountCharged d).ctl = s.ctl :=
  (Station.increment_ctl _ _).trans (s.mountCounted_ctl d)

@[simp] theorem Station.mountCharged_cv (s : Station) (d : Done) : (s.mountCharged d).cv = s.cv := by
  rw [Station.cv, Station.mountCharged_ctl, Station.cv]

theorem Station.mountCounted_store (h : d.result = .mounted) :
    (s.mountCounted d).store =
      { s.store.made (s.store.ends d.driveNo s.ctl.second) with
        drives := s.store.drives.modify d.driveNo (DriveRecord.mounted d.kind)
        occupancy := s.store.closed d.driveNo, occEstimated := s.store.estimated d.driveNo } := by
  have updated := RetainedStore.made_with s.store (s.store.ends d.driveNo s.ctl.second)
    (s.store.drives.modify d.driveNo (DriveRecord.mounted d.kind)) s.store.occupancy s.store.occEstimated
  rw [Station.mountCounted, Station.closeOccupancy_store, Station.driveUpdate_ctl, Station.driveUpdate_store h]
  exact congrArg (fun t : RetainedStore => { t with
    drives := s.store.drives.modify d.driveNo (DriveRecord.mounted d.kind)
    occupancy := s.store.closed d.driveNo, occEstimated := s.store.estimated d.driveNo }) updated

theorem Station.mountCharged_store (h : d.result = .mounted) :
    (s.mountCharged d).store =
      { s.store.made (s.store.ends d.driveNo s.ctl.second ++ [.mount d.account d.ring d.assisted]) with
        drives := s.store.drives.modify d.driveNo (DriveRecord.mounted d.kind)
        occupancy := s.store.closed d.driveNo ++ [⟨d.driveNo, d.account, s.ctl.second⟩]
        occEstimated := s.store.estimated d.driveNo } := by
  simp only [Station.mountCharged, Station.openOccupancy, Station.now, Station.increment_store, Station.increment_ctl,
    Station.mountCounted_ctl]
  rw [Station.mountCounted_store h, RetainedStore.increment_with, RetainedStore.made_append]
  rfl

/-- The store after a DONE MOUNTED: the drive's record, the entry of the drive closed and the own one opened, and the increments. -/
theorem Station.accountDone_store_of_mounted (h : d.result = .mounted) (own : Bool) :
    (s.accountDone own d).store =
      { s.store.made (s.store.ends d.driveNo s.ctl.second ++ if own then [.mount d.account d.ring d.assisted] else []) with
        drives := s.store.drives.modify d.driveNo (DriveRecord.mounted d.kind)
        occupancy := s.store.closed d.driveNo ++ if own then [⟨d.driveNo, d.account, s.ctl.second⟩] else []
        occEstimated := s.store.estimated d.driveNo } := by
  cases own with
  | false => simpa [Station.accountDone_of_peer_mounted h] using Station.mountCounted_store h
  | true => rw [Station.accountDone_of_own_mounted h, Station.cleanTest_store]; exact Station.mountCharged_store h

theorem Station.accountDone_store_of_returned (hk : d.kind = .demount) (h : d.result = .returned) (own : Bool) :
    (s.accountDone own d).store =
      { s.store.made (s.store.ends d.driveNo s.ctl.second) with
        drives := s.store.drives, occupancy := s.store.closed d.driveNo, occEstimated := s.store.occEstimated } := by
  rw [Station.accountDone_of_returned hk h, Station.closeOccupancy_store]
  rfl

/-- A DONE MOUNTED of a MOUNT takes no CLEAN-DUE back, so that every subject keeps its record. -/
theorem Station.mountCharged_subjects (h : d.result = .mounted) (hk : d.kind ≠ .clean) :
    (s.mountCharged d).subjects = s.subjects :=
  calc (s.mountCharged d).subjects
      = ((s.mountCounted d).increment (.mount d.account d.ring d.assisted)).subjects := rfl
    _ = (s.mountCounted d).subjects := Station.increment_subjects _ _
    _ = (s.driveUpdate d).subjects := Station.closeOccupancy_subjects _ _ _
    _ = s.subjects := by rw [Station.driveUpdate_of_ne_clean h hk]; rfl

/-- The record that the mount counts is the one the test of R180 reads. -/
theorem Station.accountDone_calls_cleanDue (h : d.result = .mounted) (hk : d.kind = .mount) (hc : s.cv.clean ≠ 0)
    (hs : .cleanDue d.driveNo ∈ s.subjects) {r : DriveRecord} (hr : s.store.drives[d.driveNo]? = some r)
    (due : min (r.sinceClean + 1) 65535 = s.cv.clean) :
    (s.accountDone true d).accStatus (.cleanDue d.driveNo) ≠ .none := by
  have hne : d.kind ≠ .clean := by simp [hk]
  have record : (s.mountCharged d).store.drives[d.driveNo]? =
      some ⟨min (r.mounts + 1) 65535, min (r.sinceClean + 1) 65535⟩ := by
    simp [Station.mountCharged_store h, hr, DriveRecord.mounted_of_ne_clean hne]
  rw [Station.accountDone_of_own_mounted h, Station.cleanTest_of_due hk (by simpa using hc) record (by simpa using due)]
  exact Station.callFor_accStatus_ne_none (by rwa [Station.mountCharged_subjects h hne])

/-- Outside a close, with no cleaning interval and no entry open on the drive, an own MOUNT is charged and opens its entry. -/
theorem Station.accountDone_of_uncleaned (running : s.store.closeBusy = false) (h : d.result = .mounted) (hk : d.kind = .mount)
    (hc : s.cv.clean = 0) (hopen : s.store.openEntry d.driveNo = none) :
    s.accountDone true d =
      ((s.countMount d).chargeLive (.mount d.account d.ring d.assisted)).openOccupancy d.driveNo d.account := by
  rw [Station.accountDone_of_own_mounted h, Station.cleanTest_of_zero d (by simpa using hc), Station.mountCharged, Station.mountCounted,
    Station.driveUpdate_of_ne_clean h (by simp [hk]), Station.closeOccupancy_of_none (s := s.countMount d) hopen,
    Station.increment_of_open (s := s.countMount d) _ running]

end Done

/-- Settles O56: the table's three places, the store after a DONE read off one equation for each kind of DONE, and the whole station where
the live table is charged. -/
theorem doneIsAccounted : Obligations.DoneIsAccounted := by
  unfold Obligations.DoneIsAccounted
  refine ⟨⟨?mount, Slot.add_occupancy, ?place⟩, ?done, ?live, ?outside⟩
  case mount => exact fun x a ring assisted _ hring hassisted => Slot.add_mount a ring assisted hring hassisted
  case place =>
    exact fun t i => ⟨fun _ _ _ => AccountTable.charge_of_held, fun _ _ _ => AccountTable.charge_of_empty,
      AccountTable.charge_of_full⟩
  case done =>
    intro s own d _
    refine ⟨fun h => ?mounted, fun hk h => ?returned, fun hm h => Station.accountDone_of_other hm h own⟩
    case mounted =>
      dsimp only
      rw [Station.accountDone_store_of_mounted h]
      refine ⟨rfl, rfl, rfl, RetainedStore.made_spec s.store _, ?_⟩
      rintro rfl hk hc hs ⟨r, hr, due⟩
      exact Station.accountDone_calls_cleanDue h hk hc (Station.mem_subjects.2 hs) hr due
    case returned =>
      dsimp only
      rw [Station.accountDone_store_of_returned hk h]
      exact ⟨rfl, rfl, rfl, RetainedStore.made_spec s.store _⟩
  case live =>
    intro s i
    refine ⟨Station.chargeLive_of_quiet, fun overflow unmarked => ?_⟩
    rw [Station.chargeLive_of_overflow overflow unmarked]
    refine ⟨fun standing => Station.callFor_of_ne standing, fun clear => ?_⟩
    exact (Station.callFor_of_eq (s := (s.charged i).markFull) clear).trans (Station.raiseSubject_eq _ _)
  case outside =>
    intro s own d running
    refine ⟨fun o hk h hopen => ?returned, ?mounted⟩
    case returned =>
      rw [Station.accountDone_of_returned hk h, Station.closeOccupancy_of_some hopen]
      simp only [Bool.false_eq_true, if_false]
      rw [Station.increment_of_open _ running]
      rfl
    case mounted =>
      rintro rfl hk h hc hopen
      rw [Station.accountDone_of_uncleaned running h hk hc hopen, Station.openOccupancy, Station.chargeLive_now,
        Station.countMount, DriveRecord.mounted_of_ne_clean (by simp [hk])]

end Sys2Proof.Machine
end

section
/-! The LIU's capacities and order (R10, R12, R13, R15, R22) through each of its operations. -/

namespace Sys2Proof.Machine

/-! ## The parts of the LIU's invariant -/

/-- The figures of a transmit queue entry (R12). -/
def TxEntry.Good (e : TxEntry) : Prop :=
  e.collisions ≤ 8 ∧ (e.window = 8 ∨ e.window = 16 ∨ e.window = 32 ∨ e.window = 64)

/-- The SPANs of a queue (R15). -/
def spanCount (q : List TxEntry) : Nat := (q.filter fun e => e.frame.isSpan).length

theorem TxEntry.fresh_good (b : Block) (f : Frame) : (TxEntry.fresh b f).Good := ⟨Nat.zero_le _, .inl rfl⟩

theorem Frame.urgent_of_isSpan {f : Frame} (h : f.isSpan = true) : f.urgent = true := by
  simp_all [Frame.urgent, Frame.isSpan]

theorem spanCount_cons (e : TxEntry) (q : List TxEntry) :
    spanCount (e :: q) = (if e.frame.isSpan then 1 else 0) + spanCount q := by
  unfold spanCount
  rw [List.filter_cons]
  split
  · rw [List.length_cons, Nat.add_comm]
  · rw [Nat.zero_add]

theorem spanCount_append (p q : List TxEntry) : spanCount (p ++ q) = spanCount p + spanCount q := by
  simp [spanCount]

theorem spanCount_of_perm {p q : List TxEntry} (h : p.Perm q) : spanCount p = spanCount q :=
  (h.filter _).length_eq

theorem spanCount_of_sublist {p q : List TxEntry} (h : p.Sublist q) : spanCount p ≤ spanCount q :=
  (h.filter _).length_le

theorem spanCount_eq_zero {q : List TxEntry} : spanCount q = 0 ↔ (q.any fun x => x.frame.isSpan) = false := by
  simp [spanCount]

/-- What the invariant says of the queue whatever the access. -/
structure QueueOk (q : List TxEntry) : Prop where
  room : q.length ≤ 6
  oneSpan : spanCount q ≤ 1
  good : ∀ e ∈ q, e.Good

theorem QueueOk.nil : QueueOk [] := ⟨Nat.zero_le _, Nat.zero_le _, by simp⟩

theorem QueueOk.of_perm {p q : List TxEntry} (h : QueueOk q) (hp : p.Perm q) : QueueOk p :=
  ⟨hp.length_eq ▸ h.room, spanCount_of_perm hp ▸ h.oneSpan, fun e he => h.good e (hp.mem_iff.1 he)⟩

theorem QueueOk.of_sublist {p q : List TxEntry} (h : QueueOk q) (hp : p.Sublist q) : QueueOk p :=
  ⟨hp.length_le.trans h.room, (spanCount_of_sublist hp).trans h.oneSpan, fun e he => h.good e (hp.subset he)⟩

theorem QueueOk.cons {e : TxEntry} {q : List TxEntry} (h : QueueOk q) (hroom : q.length ≤ 5) (he : e.Good)
    (hspan : e.frame.isSpan = true → spanCount q = 0) : QueueOk (e :: q) := by
  refine ⟨Nat.succ_le_succ hroom, ?_, by simpa [he] using h.good⟩
  rw [spanCount_cons]
  split
  next hs => rw [hspan hs]
  next => simpa using h.oneSpan

/-- A frame of the same kind takes the place of the head. -/
theorem QueueOk.replace {e x : TxEntry} {q : List TxEntry} (h : QueueOk (x :: q)) (he : e.Good)
    (hspan : e.frame.isSpan = true → x.frame.isSpan = true) : QueueOk (e :: q) := by
  obtain ⟨room, one, good⟩ := h
  refine ⟨room, ?_, by simp_all⟩
  rw [spanCount_cons] at one ⊢
  by_cases hs : e.frame.isSpan = true
  · simpa [hs, hspan hs] using one
  · simp only [hs]; split at one <;> simp_all

/-- The LIU's invariant by its parts. -/
theorem Liu.ok_iff (l : Liu) :
    l.Ok ↔ l.rxq.length ≤ 4 ∧ classOrdered l.notInTransmission ∧ QueueOk l.txq ∧
      (∀ f, l.heldSpan = some f → f.isSpan = true) ∧ l.backoff ≠ 0 := by
  constructor
  · rintro ⟨rx, room, ord, one, held, good, back⟩
    exact ⟨rx, ord, ⟨room, one, good⟩, held, back⟩
  · rintro ⟨rx, ord, ⟨room, one, good⟩, held, back⟩
    exact ⟨rx, room, ord, one, held, good, back⟩

section Parts
variable {l : Liu} (h : l.Ok)
include h

theorem Liu.Ok.queue : QueueOk l.txq := (l.ok_iff.1 h).2.2.1

theorem Liu.Ok.order : classOrdered l.notInTransmission := (l.ok_iff.1 h).2.1

theorem Liu.Ok.held {f : Frame} (hf : l.heldSpan = some f) : f.isSpan = true := (l.ok_iff.1 h).2.2.2.1 f hf

theorem Liu.Ok.generator : l.backoff ≠ 0 := (l.ok_iff.1 h).2.2.2.2

/-- An operation that leaves queue and held place alone, and neither begins nor ends a transmission, keeps the invariant. -/
theorem Liu.Ok.of_same {m : Liu} (hrx : m.rxq.length ≤ 4) (htx : m.txq = l.txq) (hheld : m.heldSpan = l.heldSpan)
    (hacc : m.access = .sending ↔ l.access = .sending) (hback : m.backoff ≠ 0) : m.Ok := by
  obtain ⟨-, ord, queue, held, -⟩ := l.ok_iff.1 h
  refine m.ok_iff.2 ⟨hrx, ?_, htx ▸ queue, hheld ▸ held, hback⟩
  unfold Liu.notInTransmission at ord ⊢
  rw [htx]
  simpa only [hacc] using ord

theorem Liu.Ok.rx : l.rxq.length ≤ 4 := h.1

/-- The receiving side and the counters are no part of what the invariant says of the transmit side. -/
theorem Liu.Ok.of_sameTx {m : Liu} (k : l.SameTx m) : m.Ok := by
  obtain ⟨-, -, htx, hheld, hback, hacc, hrx⟩ := k
  refine h.of_same (hrx h.rx) htx hheld ?_ (hback ▸ h.generator)
  rcases hacc with hacc | ⟨⟨n, hn⟩, hacc⟩
  · rw [hacc]
  · simp [hn, hacc]

/-! ## Waiting, joining, posting (R13 to R19) -/

theorem Liu.Ok.tryDraw : l.tryDraw.Ok := by
  unfold Liu.tryDraw
  split
  · exact h
  · split
    next hdraw =>
      exact h.of_same h.rx rfl rfl (by simp [hdraw.1]) (backoffAdvance_ne_zero h.generator)
    next => exact h

theorem Liu.Ok.headChanged : l.headChanged.Ok := by
  unfold Liu.headChanged
  split
  next n hacc =>
    split
    · exact h.of_same h.rx rfl rfl (by simp [hacc]) h.generator
    · exact Liu.Ok.tryDraw (h.of_same (m := { l with access := .gapWait }) h.rx rfl rfl (by simp [hacc]) h.generator)
  next hacc =>
    split
    · exact h.of_same h.rx rfl rfl (by simp [hacc]) h.generator
    · exact h
  next => exact h

end Parts

theorem insertByClass_perm (e : TxEntry) (q : List TxEntry) : (insertByClass e q).Perm (e :: q) := by
  induction q with
  | nil => exact .refl _
  | cons x xs ih =>
    unfold insertByClass
    split
    · exact .refl _
    · exact (ih.cons x).trans (.swap e x xs)

theorem Liu.insert_perm (l : Liu) (e : TxEntry) : (l.insert e).Perm (e :: l.txq) := by
  rw [l.insert_eq]
  calc l.inTransmission ++ insertByClass e l.notInTransmission
      |>.Perm (l.inTransmission ++ e :: l.notInTransmission) := (insertByClass_perm e _).append_left _
    _ |>.Perm (e :: (l.inTransmission ++ l.notInTransmission)) := List.perm_middle
    _ |>.Perm (e :: l.txq) := by rw [← l.txq_eq_append]

/-! ## The sending order as a relation of pairs (R13) -/

theorem classOrdered_iff_pairwise {q : List TxEntry} :
    classOrdered q ↔ q.Pairwise fun x y => x.frame.urgent = false → y.frame.urgent = false := by
  induction q with
  | nil => simp [classOrdered]
  | cons x xs ih =>
    rw [classOrdered, List.pairwise_cons, ih]
    exact and_congr_left fun _ => ⟨fun hx y hy hn => hx hn y hy, fun hx hn y hy => hx y hy hn⟩

theorem classOrdered_of_sublist {p q : List TxEntry} (h : classOrdered q) (hp : p.Sublist q) : classOrdered p :=
  classOrdered_iff_pairwise.2 ((classOrdered_iff_pairwise.1 h).sublist hp)

/-- The order is one of classes alone. -/
theorem classOrdered_congr {p q : List TxEntry} (h : p.map (·.frame.urgent) = q.map (·.frame.urgent)) :
    classOrdered p ↔ classOrdered q := by
  have pairs (r : List TxEntry) :
      classOrdered r ↔ (r.map (·.frame.urgent)).Pairwise fun x y => x = false → y = false := by
    rw [classOrdered_iff_pairwise, List.pairwise_map]
  rw [pairs, pairs, h]

/-- An URGENT frame may stand before any queue in sending order. -/
theorem classOrdered_cons_urgent {e : TxEntry} {q : List TxEntry} (h : classOrdered q) (he : e.frame.urgent = true) :
    classOrdered (e :: q) := ⟨fun hn => by simp [he] at hn, h⟩

/-! ## Posting (R14) -/

section Parts
variable {l : Liu} (h : l.Ok)
include h

/-- An operation that changes the queue, and leaves receive queue, held place and generator alone. -/
theorem Liu.Ok.of_queue {m : Liu} (hrx : m.rxq = l.rxq) (hheld : m.heldSpan = l.heldSpan) (hback : m.backoff = l.backoff)
    (hord : classOrdered m.notInTransmission) (hq : QueueOk m.txq) : m.Ok :=
  m.ok_iff.2 ⟨hrx ▸ h.rx, hord, hq, fun _ hf => h.held (hheld ▸ hf), hback ▸ h.generator⟩

theorem Liu.Ok.inserted {e : TxEntry} (hroom : l.txq.length ≤ 5) (he : e.Good)
    (hspan : e.frame.isSpan = true → spanCount l.txq = 0) : { l with txq := l.insert e }.Ok := by
  refine h.of_queue rfl rfl rfl ?_ ((h.queue.cons hroom he hspan).of_perm (l.insert_perm e))
  have ord := h.order
  unfold Liu.notInTransmission Liu.insert at *
  by_cases hs : l.access = .sending
  · cases hq : l.txq with
    | nil => simp [hs, insertByClass, classOrdered]
    | cons x xs => simpa [hs, hq] using classOrdered_insertByClass e (by simpa [hs, hq] using ord)
  · simpa [hs] using classOrdered_insertByClass e (by simpa [hs] using ord)

theorem Liu.Ok.join {e : TxEntry} (hroom : l.txq.length ≤ 5) (he : e.Good)
    (hspan : e.frame.isSpan = true → spanCount l.txq = 0) : (l.join e).Ok := by
  have joined := h.inserted hroom he hspan
  unfold Liu.join
  dsimp only
  split
  next hacc => exact Liu.Ok.tryDraw (joined.of_same (m := { l with txq := l.insert e, access := .gapWait })
      joined.rx rfl rfl (by simp [hacc]) joined.generator)
  next =>
    split
    · exact joined
    · exact joined.headChanged
  next => exact joined

omit h in
theorem removeLastNormal_sublist {q q' : List TxEntry} {v : TxEntry} (hq : removeLastNormal q = some (v, q')) : q'.Sublist q := by
  induction q generalizing q' with
  | nil => simp [removeLastNormal] at hq
  | cons x xs ih =>
    unfold removeLastNormal at hq
    split at hq
    next hx => cases hq; exact (ih hx).cons_cons _
    next => split at hq <;> cases hq; exact List.sublist_cons_self _ _

theorem Liu.Ok.displaced {v : TxEntry} {q : List TxEntry} (hd : l.displaceable = some (v, q)) :
    { l.countDrop with txq := q }.Ok ∧ q.length + 1 = l.txq.length ∧ q.Sublist l.txq := by
  rw [Liu.displaceable_eq, Option.map_eq_some_iff] at hd
  obtain ⟨⟨v', q'⟩, hr, heq⟩ := hd
  cases heq
  have sub := removeLastNormal_sublist hr
  have whole : (l.inTransmission ++ q').Sublist l.txq := by
    conv_rhs => rw [l.txq_eq_append]
    exact sub.append_left _
  refine ⟨h.of_queue rfl rfl rfl ?_ (h.queue.of_sublist whole), ?_, whole⟩
  · have ord := classOrdered_of_sublist h.order sub
    unfold Liu.notInTransmission Liu.inTransmission at *
    by_cases hs : l.access = .sending
    · cases hq : l.txq with
      | nil => simp [hs, hq, removeLastNormal] at hr
      | cons x xs => simpa [hs, hq, Liu.countDrop] using ord
    · simpa [hs, Liu.countDrop] using ord
  · have := length_removeLastNormal hr
    have split := congrArg List.length l.txq_eq_append
    simp only [List.length_append] at split ⊢
    omega

/-- Posting keeps the invariant, where a SPAN finds none queued (R14, R15). -/
theorem Liu.Ok.post {e : TxEntry} (he : e.Good) (hspan : e.frame.isSpan = true → spanCount l.txq = 0) : (l.post e).1.Ok := by
  have counted : l.countDrop.Ok := h.of_same h.rx rfl rfl Iff.rfl h.generator
  unfold Liu.post
  split
  next hroom => exact h.join hroom he hspan
  next hfull =>
    split
    · split
      next v q hd =>
        obtain ⟨ok, hlen, hsub⟩ := h.displaced hd
        have room := h.queue.room
        exact ok.join (show q.length ≤ 5 by omega) he fun hs => Nat.le_zero.1 (hspan hs ▸ spanCount_of_sublist hsub)
      next => exact counted
    · exact counted

end Parts

/-! ## The one-SPAN rule (R15, R16) -/

theorem replaceSpan_classes {e : TxEntry} (he : e.frame.isSpan = true) (q : List TxEntry) :
    (replaceSpan e q).map (·.frame.urgent) = q.map (·.frame.urgent) := by
  induction q with
  | nil => rfl
  | cons x xs ih =>
    unfold replaceSpan
    split
    next hx => simp [Frame.urgent_of_isSpan he, Frame.urgent_of_isSpan hx]
    next => simp [ih]

theorem replaceSpan_ok {e : TxEntry} (he : e.Good) {q : List TxEntry} (h : QueueOk q) : QueueOk (replaceSpan e q) := by
  obtain ⟨room, one, good⟩ := h
  have length (p : List TxEntry) : (replaceSpan e p).length = p.length := by
    induction p with
    | nil => rfl
    | cons x xs ih => unfold replaceSpan; split <;> simp [ih]
  have spans (p : List TxEntry) : spanCount (replaceSpan e p) ≤ spanCount p := by
    induction p with
    | nil => exact Nat.le_refl _
    | cons x xs ih =>
      unfold replaceSpan
      split
      next hx => rw [spanCount_cons, spanCount_cons, if_pos hx]; split <;> omega
      next => rw [spanCount_cons, spanCount_cons]; omega
  have members (p : List TxEntry) (hp : ∀ x ∈ p, x.Good) : ∀ x ∈ replaceSpan e p, x.Good := by
    induction p with
    | nil => simp [replaceSpan]
    | cons x xs ih => unfold replaceSpan; split <;> simp_all
  exact ⟨length q ▸ room, (spans q).trans one, members q good⟩

theorem removeSpan_sublist (q : List TxEntry) : (removeSpan q).Sublist q := by
  induction q with
  | nil => exact .refl _
  | cons x xs ih =>
    unfold removeSpan
    split
    · exact List.sublist_cons_self x xs
    · exact ih.cons_cons x

/-- With no SPAN in transmission, an operation on the first SPAN of the queue leaves a frame in transmission at the head. -/
theorem Liu.notInTransmission_of_span {l : Liu} (hs : l.spanInTransmission = false) (op : List TxEntry → List TxEntry)
    (hnil : op [] = []) (hcons : ∀ x xs, x.frame.isSpan = false → op (x :: xs) = x :: op xs) {m : Liu} (hacc : m.access = l.access)
    (hm : m.txq = op l.txq) : m.notInTransmission = op l.notInTransmission := by
  unfold Liu.notInTransmission
  rw [hacc, hm]
  split
  next hsend =>
    cases hq : l.txq with
    | nil => simp [hnil]
    | cons x xs => simp [hcons x xs (by simpa [Liu.spanInTransmission, hsend, hq] using hs)]
  next => rfl

theorem Liu.Ok.postSpan {l : Liu} (h : l.Ok) {f : Frame} (hf : f.isSpan = true) : (l.postSpan f).1.Ok := by
  unfold Liu.postSpan
  split
  · obtain ⟨rx, ord, queue, -, back⟩ := l.ok_iff.1 h
    exact (Liu.ok_iff _).2 ⟨rx, ord, queue, fun g hg => by cases hg; exact hf, back⟩
  next hs =>
    split
    next =>
      have replaced : { l with txq := replaceSpan (TxEntry.fresh .span f) l.txq }.Ok := by
        refine h.of_queue rfl rfl rfl ?_ (replaceSpan_ok (TxEntry.fresh_good _ _) h.queue)
        rw [Liu.notInTransmission_of_span (l := l) (m := { l with txq := replaceSpan (TxEntry.fresh .span f) l.txq })
          (by simpa using hs) (replaceSpan (TxEntry.fresh .span f)) rfl
          (fun x xs hx => by simp [replaceSpan, hx]) rfl rfl]
        exact (classOrdered_congr (replaceSpan_classes hf _)).2 h.order
      dsimp only
      split
      · exact replaced.headChanged
      · exact replaced
    next hq => exact h.post (TxEntry.fresh_good _ _) fun _ => spanCount_eq_zero.2 (by simpa [Liu.spanQueued] using hq)

theorem Liu.Ok.withdrawSpan {l : Liu} (h : l.Ok) : l.withdrawSpan.1.Ok := by
  obtain ⟨rx, ord, queue, -, back⟩ := l.ok_iff.1 h
  unfold Liu.withdrawSpan
  split
  · exact (Liu.ok_iff _).2 ⟨rx, ord, queue, by simp, back⟩
  next hs =>
    have withdrawn : { l with heldSpan := none, txq := removeSpan l.txq }.Ok := by
      refine (Liu.ok_iff _).2 ⟨rx, ?_, queue.of_sublist (removeSpan_sublist _), by simp, back⟩
      rw [Liu.notInTransmission_of_span (l := l) (m := { l with heldSpan := none, txq := removeSpan l.txq })
        (by simpa using hs) removeSpan rfl (fun x xs hx => by simp [removeSpan, hx]) rfl rfl]
      exact classOrdered_of_sublist ord (removeSpan_sublist _)
    dsimp only
    split
    · exact withdrawn.headChanged
    · exact withdrawn

/-! ## The line's events (R6 to R11, R17) -/

section Line
variable {l : Liu} (h : l.Ok)
include h

theorem Liu.Ok.dequeue : l.dequeue.Ok :=
  Liu.Ok.tryDraw (h.of_same (m := { l with rxq := l.rxq.tail }) ((List.tail_sublist _).length_le.trans h.rx) rfl rfl Iff.rfl h.generator)

theorem Liu.Ok.gapEnd : l.gapEnd.Ok := by
  unfold Liu.gapEnd
  split
  · exact h
  · dsimp only
    split <;> exact Liu.Ok.tryDraw (h.of_same h.rx rfl rfl Iff.rfl h.generator)

theorem Liu.Ok.takeChars (chars : List Byte) : (l.takeChars chars).Ok := h.of_sameTx (l.takeChars_sameTx chars)

theorem Liu.Ok.sampleSpace : l.sampleSpace.Ok := h.of_sameTx l.sampleSpace_sameTx

theorem Liu.Ok.enqueue (e : RxEntry) : (l.enqueue e).Ok := h.of_sameTx (l.enqueue_sameTx e)

/-- Receiver and counters are no part of the invariant. -/
theorem Liu.Ok.receiver (r : Receiver) (c : LineCounters) : { l with receiver := r, counters := c }.Ok :=
  h.of_same h.rx rfl rfl Iff.rfl h.generator

theorem Liu.Ok.lineBusyAt (levels : List Bool) : (l.lineBusyAt levels).Ok := by
  unfold Liu.lineBusyAt
  split
  · exact h.of_sameTx (l.takeChar_sameTx _)
  · exact h.sampleSpace

theorem Liu.Ok.hunt (chars : List Byte) : (l.hunt chars).Ok := by
  unfold Liu.hunt
  split
  · exact h
  · exact h.takeChars chars

theorem Liu.Ok.malformedLen (len : Byte) : (l.malformedLen len).Ok := by
  unfold Liu.malformedLen
  split
  · exact h.of_sameTx (l.takeChar_sameTx _)
  · exact h

theorem Liu.Ok.frameReceived (chars : List Byte) : (l.frameReceived chars).Ok := by
  unfold Liu.frameReceived
  split
  · exact h.takeChars chars
  · exact h

theorem Liu.Ok.framingErrorAt (levels : List Bool) : (l.framingErrorAt levels).Ok := by
  unfold Liu.framingErrorAt Liu.framingError
  split
  · split <;> exact h.sampleSpace.receiver _ _
  · exact h

theorem Liu.Ok.breakAt (levels : List Bool) : (l.breakAt levels).Ok := by
  unfold Liu.breakAt Liu.breakHeard
  split
  · dsimp only; split <;> exact h.sampleSpace.receiver _ _
  · exact h

theorem Liu.Ok.unknownKind : l.unknownKind.Ok := by
  unfold Liu.unknownKind
  split
  · split
    · exact h
    · exact (h.receiver l.receiver _).dequeue
  · exact h

end Line

/-! ## Sending, collision, break, hearing back (R18 to R23) -/

theorem requeueCollided_perm (e : TxEntry) (q : List TxEntry) : (requeueCollided e q).Perm (e :: q) := by
  induction q with
  | nil => exact .refl _
  | cons x xs ih =>
    unfold requeueCollided
    split
    · exact (ih.cons x).trans (.swap e x xs)
    · exact .refl _

theorem classOrdered_requeueCollided (e : TxEntry) {q : List TxEntry} (h : classOrdered q) : classOrdered (requeueCollided e q) := by
  induction q with
  | nil => simp [requeueCollided, classOrdered]
  | cons x xs ih =>
    obtain ⟨hx, hxs⟩ := h
    unfold requeueCollided
    split
    next hc => exact classOrdered_cons_urgent (ih hxs) hc.1
    next hc =>
      refine ⟨fun he y hy => ?_, hx, hxs⟩
      have normal : x.frame.urgent = false := by simpa [he] using hc
      rcases List.mem_cons.1 hy with rfl | hy
      · exact normal
      · exact hx normal y hy

theorem removeCollided_perm {q q' : List TxEntry} {e : TxEntry} (h : removeCollided q = some (e, q')) :
    q.Perm (e :: q') ∧ q'.Sublist q := by
  induction q generalizing q' with
  | nil => simp [removeCollided] at h
  | cons x xs ih =>
    unfold removeCollided at h
    split at h
    · cases h; exact ⟨.refl _, List.sublist_cons_self _ _⟩
    · obtain ⟨⟨v, p⟩, hp, heq⟩ := Option.map_eq_some_iff.1 h
      cases heq
      obtain ⟨perm, sub⟩ := ih hp
      exact ⟨(perm.cons _).trans (.swap v _ p), sub.cons_cons _⟩

theorem windowAfter_good (n : Nat) :
    windowAfter n = 8 ∨ windowAfter n = 16 ∨ windowAfter n = 32 ∨ windowAfter n = 64 := by
  unfold windowAfter
  match n with
  | 0 | 1 | 2 => decide
  | n + 3 =>
    have := Nat.one_le_two_pow (n := n)
    right; right; right
    rw [Nat.pow_add]
    omega

theorem retryCollided_ok {q : List TxEntry} (h : QueueOk q) : QueueOk (retryCollided q) := by
  have frames (p : List TxEntry) : (retryCollided p).map (·.frame) = p.map (·.frame) := by
    induction p with
    | nil => rfl
    | cons x xs ih => unfold retryCollided; split <;> simp [ih]
  have members (p : List TxEntry) (hp : ∀ x ∈ p, x.Good) : ∀ x ∈ retryCollided p, x.Good := by
    induction p with
    | nil => simp [retryCollided]
    | cons x xs ih =>
      obtain ⟨hx, hxs⟩ := List.forall_mem_cons.1 hp
      unfold retryCollided
      split
      · refine List.forall_mem_cons.2 ⟨⟨hx.1, ?_⟩, hxs⟩
        dsimp only
        split
        · exact hx.2
        · exact windowAfter_good _
      · exact List.forall_mem_cons.2 ⟨hx, ih hxs⟩
  have count (p : List TxEntry) : spanCount p = ((p.map (·.frame)).filter (·.isSpan)).length := by
    simp [spanCount, List.filter_map, Function.comp_def]
  refine ⟨?_, ?_, members q h.good⟩
  · have same := congrArg List.length (frames q)
    simp only [List.length_map] at same
    exact same ▸ h.room
  · rw [count, frames, ← count]; exact h.oneSpan

theorem retryCollided_classes (q : List TxEntry) : (retryCollided q).map (·.frame.urgent) = q.map (·.frame.urgent) := by
  induction q with
  | nil => rfl
  | cons x xs ih => unfold retryCollided; split <;> simp [ih]

/-- The access after a break or a hearing back is no sending. -/
theorem Liu.Ok.waitOrIdle {l : Liu} (h : l.Ok) (hs : l.access ≠ .sending) : l.waitOrIdle.Ok := by
  refine h.of_same h.rx rfl rfl ?_ h.generator
  unfold Liu.waitOrIdle
  dsimp only
  split <;> simp [hs]

/-- A held SPAN joins a queue that has none and a place free (R15). -/
theorem Liu.Ok.admitHeld {l : Liu} (h : l.Ok) (hs : l.access ≠ .sending) (hroom : l.txq.length ≤ 5) (hspan : spanCount l.txq = 0) :
    l.admitHeld.Ok := by
  unfold Liu.admitHeld
  split
  next f _ =>
    refine (Liu.ok_iff _).2 ⟨h.rx, ?_, (h.queue.cons hroom (TxEntry.fresh_good .span f) fun _ => hspan).of_perm
      (insertByClass_perm _ _), by simp, h.generator⟩
    have ord := h.order
    unfold Liu.notInTransmission at ord ⊢
    simp only [hs, if_false] at ord ⊢
    exact classOrdered_insertByClass _ ord
  next => exact h

theorem Liu.admitHeld_access (l : Liu) : l.admitHeld.access = l.access := by
  unfold Liu.admitHeld; split <;> rfl

section Sending
variable {l : Liu} (h : l.Ok)
include h

theorem Liu.Ok.startSending : l.startSending.Ok := by
  unfold Liu.startSending
  split
  next n e rest hacc hq =>
    refine h.of_queue rfl rfl rfl ?_ h.queue
    have ord := h.order
    simp only [Liu.notInTransmission, hacc, hq] at ord ⊢
    exact ord.2
  next => exact h

theorem Liu.Ok.collide : l.collide.Ok := by
  unfold Liu.collide
  split
  next e rest hacc hq =>
    have ord : classOrdered rest := by simpa [Liu.notInTransmission, hacc, hq] using h.order
    have queue : QueueOk (e :: rest) := hq ▸ h.queue
    dsimp only
    split
    next f hspan hheld =>
      have span := h.held hheld
      exact (Liu.ok_iff _).2 ⟨h.rx, classOrdered_cons_urgent ord (Frame.urgent_of_isSpan span),
        queue.replace (TxEntry.fresh_good .span f) fun _ => hspan, by simp, h.generator⟩
    next =>
      refine h.of_queue rfl rfl rfl (classOrdered_requeueCollided _ ord) ((QueueOk.replace queue ?_ ?_).of_perm (requeueCollided_perm _ _))
      · exact ⟨Nat.min_le_right _ _, (queue.good e (by simp)).2⟩
      · exact id
  next => exact h

/-- The frame that leaves after its last attempt makes room for the held SPAN where it was the SPAN. -/
theorem Liu.Ok.breakEnd (hs : l.access ≠ .sending) : l.breakEnd.1.Ok := by
  have ord : classOrdered l.txq := by simpa [Liu.notInTransmission, hs] using h.order
  unfold Liu.breakEnd
  split
  next => exact h.waitOrIdle hs
  next e q hq =>
    obtain ⟨perm, sub⟩ := removeCollided_perm hq
    dsimp only
    split
    · have left : { l.countDrop with txq := q }.Ok := by
        refine h.of_queue rfl rfl rfl ?_ (h.queue.of_sublist sub)
        simpa [Liu.notInTransmission, Liu.countDrop, hs] using classOrdered_of_sublist ord sub
      have room : q.length ≤ 5 := by
        have same := perm.length_eq
        have room := h.queue.room
        rw [List.length_cons] at same
        omega
      split
      next hspan =>
        have none_left : spanCount q = 0 := by
          have one := h.queue.oneSpan
          rw [spanCount_of_perm perm, spanCount_cons, if_pos hspan] at one
          omega
        exact (left.admitHeld hs room none_left).waitOrIdle (by rw [Liu.admitHeld_access]; exact hs)
      next => exact left.waitOrIdle hs
    · refine Liu.Ok.waitOrIdle (h.of_queue (m := { l with txq := retryCollided l.txq }) rfl rfl rfl ?_ (retryCollided_ok h.queue)) hs
      simpa [Liu.notInTransmission, hs] using (classOrdered_congr (retryCollided_classes _)).2 ord

theorem Liu.Ok.heardBack : l.heardBack.Ok := by
  unfold Liu.heardBack
  split
  next e rest hacc hq =>
    have queue : QueueOk (e :: rest) := hq ▸ h.queue
    have left : { l with txq := rest, receiver := .hunt, access := .gapWait }.Ok := by
      refine h.of_queue rfl rfl rfl ?_ (queue.of_sublist (List.sublist_cons_self e rest))
      simpa [Liu.notInTransmission, hacc, hq] using h.order
    dsimp only
    split
    next hspan =>
      have none_left : spanCount rest = 0 := by
        have one := queue.oneSpan
        rw [spanCount_cons, if_pos hspan] at one
        omega
      exact Liu.Ok.enqueue (Liu.Ok.waitOrIdle (left.admitHeld (by simp) (Nat.le_of_succ_le_succ queue.room) none_left)
        (by simp [Liu.admitHeld_access])) _
    next => exact Liu.Ok.enqueue (left.waitOrIdle (by simp)) _
  next => exact h

theorem Liu.Ok.emptied : l.emptied.Ok := by
  refine (Liu.ok_iff _).2 ⟨h.rx, ?_, .nil, by simp [Liu.emptied], h.generator⟩
  unfold Liu.notInTransmission Liu.emptied
  dsimp only
  split <;> simp [classOrdered]

end Sending

theorem Liu.reset_ok : Liu.reset.Ok := (Liu.ok_iff _).2 ⟨Nat.zero_le _, trivial, .nil, by simp [Liu.reset], by decide⟩

end Sys2Proof.Machine
end

section
/-! What every shared operation of the blocks keeps: the LIU's capacities, the request table's tags, a TRAVEL under its grant or a STOP,
BEACON, and the retained store. One lemma for each operation, in the order of the model, up to the step. -/

namespace Sys2Proof.Machine

/-! ## The two relations -/

/-- No TRAVEL is in flight, or STOP was issued for it (R128). -/
def Sequencer.Halted (q : Sequencer) : Prop := q.travelling = true → (q.cmd.any fun f => f.causes.isSome) = true

/-- The tags of the request table, in its order. -/
def RequestUnit.tags (r : RequestUnit) : List Tag := r.table.map fun e => e.call.tag

/-- From a station to one after it, each of the five invariants is kept by itself. -/
structure Station.Sound (s t : Station) : Prop where
  liu : s.liu.Ok → t.liu.Ok
  req : s.req.Ok → t.req.Ok
  travel : s.TravelOk → t.TravelOk
  prm : s.prm.Ok → t.prm.Ok
  store : s.store.Ok → t.store.Ok

/-- The relation of an operation inside an event. It adds no tag to the request table, and issues no TRAVEL. -/
structure Station.Keeps (s t : Station) : Prop where
  liu : s.liu.Ok → t.liu.Ok
  tags : t.req.tags.Sublist s.req.tags
  travel : s.TravelOk → t.TravelOk
  halted : s.seq.Halted → t.seq.Halted
  prm : s.prm.Ok → t.prm.Ok
  store : s.store.Ok → t.store.Ok

theorem RequestUnit.ok_of_tags {r u : RequestUnit} (h : u.tags.Sublist r.tags) (hr : r.Ok) : u.Ok := by
  have length (x : RequestUnit) : x.tags.length = x.table.length := by simp [RequestUnit.tags]
  exact ⟨length u ▸ h.length_le.trans (length r ▸ hr.1), hr.2.sublist h⟩

theorem Station.Sound.refl (s : Station) : s.Sound s := ⟨id, id, id, id, id⟩

theorem Station.Sound.trans {s t u : Station} (h : s.Sound t) (k : t.Sound u) : s.Sound u :=
  ⟨k.liu ∘ h.liu, k.req ∘ h.req, k.travel ∘ h.travel, k.prm ∘ h.prm, k.store ∘ h.store⟩

theorem Station.TravelOk.of_halted {s : Station} (h : s.seq.Halted) : s.TravelOk := fun ht => .inr (h ht)

theorem Station.TravelOk.halted {s : Station} (h : s.TravelOk) (hr : s.span.reservation ≠ .granted) : s.seq.Halted :=
  fun ht => (h ht).resolve_left hr

theorem Sequencer.halted_of_cmd_none {q : Sequencer} (h : q.cmd = none) : q.Halted := by
  simp [Sequencer.Halted, Sequencer.travelling, h]

theorem Sequencer.halted_congr {p q : Sequencer} (h : p.cmd = q.cmd) : p.Halted ↔ q.Halted := by
  simp only [Sequencer.Halted, Sequencer.travelling, h]

/-- BEACON depends on the levels alone. -/
theorem PromptUnit.ok_of_levels {p q : PromptUnit} (hb : q.beacon = p.beacon) (hl : q.list.map (·.level) = p.list.map (·.level))
    (h : p.Ok) : q.Ok := by
  have levels (x : PromptUnit) : (x.list.any fun e => e.level == .urgent) = (x.list.map (·.level)).any fun l => l == .urgent := by
    rw [List.any_map]; rfl
  unfold PromptUnit.Ok at *
  rw [hb, h, levels, levels, hl]

namespace Station.Keeps

theorem refl (s : Station) : s.Keeps s := ⟨id, .refl _, id, id, id, id⟩

variable {s x y : Station}

theorem trans (h : s.Keeps x) (k : x.Keeps y) : s.Keeps y :=
  ⟨k.liu ∘ h.liu, k.tags.trans h.tags, k.travel ∘ h.travel, k.halted ∘ h.halted, k.prm ∘ h.prm, k.store ∘ h.store⟩

theorem sound (h : s.Keeps x) : s.Sound x := ⟨h.liu, RequestUnit.ok_of_tags h.tags, h.travel, h.prm, h.store⟩

/-! ## A change of one block -/

variable (h : s.Keeps x)
include h

theorem withLiu (l : Liu) (hl : x.liu.Ok → l.Ok) : s.Keeps { x with liu := l } := h.trans ⟨hl, .refl _, id, id, id, id⟩

theorem withReq (r : RequestUnit) (hr : r.tags.Sublist x.req.tags) : s.Keeps { x with req := r } :=
  h.trans ⟨id, hr, id, id, id, id⟩

/-- A change of the Request Unit that leaves its table alone. -/
theorem withClaims (r : RequestUnit) (hr : r.table = x.req.table) : s.Keeps { x with req := r } :=
  h.withReq r (by rw [RequestUnit.tags, hr]; exact .refl _)

theorem withSpan (u : SpanUnit) (hu : u.reservation = x.span.reservation) : s.Keeps { x with span := u } :=
  h.trans ⟨id, .refl _, fun ht hc => hu ▸ ht hc, id, id, id⟩

/-- The reservation may change where no grant is held, or where no TRAVEL needs one. -/
theorem withReservation (u : SpanUnit) (hu : x.span.reservation ≠ .granted ∨ x.seq.Halted) : s.Keeps { x with span := u } :=
  h.trans ⟨id, .refl _, fun ht => .of_halted (hu.elim ht.halted id), id, id, id⟩

theorem withSeq (q : Sequencer) (hq : q.cmd = x.seq.cmd) : s.Keeps { x with seq := q } :=
  h.trans ⟨id, .refl _, fun ht => by simpa only [Station.TravelOk, Sequencer.travelling, hq] using ht,
    (Sequencer.halted_congr hq).2, id, id⟩

/-- The command in flight may change where no TRAVEL without a STOP results. -/
theorem withHalted (q : Sequencer) (hq : q.Halted) : s.Keeps { x with seq := q } :=
  h.trans ⟨id, .refl _, fun _ => .of_halted hq, fun _ => hq, id, id⟩

theorem withPrm (p : PromptUnit) (hb : p.beacon = x.prm.beacon) (hl : p.list.map (·.level) = x.prm.list.map (·.level)) :
    s.Keeps { x with prm := p } :=
  h.trans ⟨id, .refl _, id, id, PromptUnit.ok_of_levels hb hl, id⟩

theorem withAcc (a : List AccRecord) : s.Keeps { x with acc := a } := h.trans ⟨id, .refl _, id, id, id, id⟩

theorem withStore (st : RetainedStore) (hs : x.store.Ok → st.Ok) : s.Keeps { x with store := st } :=
  h.trans ⟨id, .refl _, id, id, id, hs⟩

/-- After any change of the prompt list, and what follows it, BEACON is driven anew (R172). -/
theorem relisted (p : PromptUnit) (k : { x with prm := p }.Keeps y) : s.Keeps y.driveBeacon :=
  ⟨k.liu ∘ h.liu, k.tags.trans h.tags, k.travel ∘ h.travel, k.halted ∘ h.halted, fun _ => rfl, k.store ∘ h.store⟩

omit h in
theorem foldl {α : Type} (f : Station → α → Station) (hf : ∀ (z : Station) (a : α), z.Keeps (f z a)) (l : List α) (h : s.Keeps x) :
    s.Keeps (l.foldl f x) := by
  induction l generalizing x with
  | nil => exact h
  | cons a as ih => exact ih (h.trans (hf x a))

/-! ## Ops.lean: entries, the owned list, drops, posting -/

theorem updateEntry (t : Tag) (f : Entry → Entry) (hf : ∀ e, (f e).call = e.call) : s.Keeps (x.updateEntry t f) :=
  h.withReq _ (by rw [RequestUnit.tags, RequestUnit.update_tags _ _ _ hf]; exact .refl _)

theorem rescanPoint : s.Keeps x.rescanPoint := h.withClaims _ rfl

theorem handOver (t : Tag) : s.Keeps (x.handOver t) := by
  unfold Station.handOver
  split
  · exact h
  · exact (h.withClaims { x.req with active := some t, elapsed := 0 } rfl).withSeq _ rfl

theorem leaveOwned (t : Tag) : s.Keeps (x.leaveOwned t) := by
  have left := (h.withClaims { x.req with owned := x.req.owned.filter fun u => u != t } rfl).rescanPoint
  unfold Station.leaveOwned
  dsimp only
  split
  · have inactive := left.withClaims { x.req with
      owned := x.req.owned.filter fun u => u != t, rescan := true, active := none } rfl
    split
    · exact inactive.handOver _
    · exact inactive
  · exact left

theorem ownToRest : s.Keeps x.ownToRest := by
  unfold Station.ownToRest
  split
  · exact h.withSpan _ rfl
  · exact h

theorem offerDropped (t : Tag) (c : Nat) : s.Keeps (x.offerDropped t c) :=
  h.updateEntry t _ fun e => by split <;> rfl

theorem takeDropped (t : Tag) (c : Nat) : s.Keeps (x.takeDropped t c) := by
  unfold Station.takeDropped
  split
  · split
    · exact (h.updateEntry t Entry.toHeard fun _ => rfl).leaveOwned t
    · exact h
  · exact h

/-- The MOVING SPAN dropped in ASKING ends no grant (R111). -/
theorem spanDropped (b : Bool) : s.Keeps (x.spanDropped b) := by
  unfold Station.spanDropped
  split
  next hask =>
    refine h.ownToRest.withReservation _ (.inl ?_)
    unfold Station.ownToRest
    split <;> simp [hask.1]
  next => exact h.withSpan _ rfl

theorem promptDropped (n : Nat) (l : Option Level) : s.Keeps (x.promptDropped n l) := by
  refine h.withPrm _ rfl ?_
  rw [List.map_map]
  exact List.map_congr_left fun e _ => by dsimp only [Function.comp]; split <;> rfl

theorem reportDrop (f : Frame) (l : List Frame) : s.Keeps (x.reportDrop f l) := by
  have seq (d : Done) : s.Keeps (x.doneDropped d) := h.withSeq _ rfl
  have span (a : Nat) : s.Keeps (x.nudgeDropped a) := h.withSpan _ rfl
  have clears (n : Nat) (r : Option ClearReason) (k : Nat) : s.Keeps (x.clearDropped n r k) := h.withPrm _ rfl rfl
  unfold Station.reportDrop
  dsimp only
  repeat' split
  all_goals
    first
    | exact h
    | exact h.offerDropped _ _
    | exact h.takeDropped _ _
    | exact seq _
    | exact h.spanDropped _
    | exact span _
    | exact h.promptDropped _ _
    | exact clears _ _ _

theorem settle (r : Liu × Option TxEntry) (l : List Frame) (hr : x.liu.Ok → r.1.Ok) : s.Keeps (x.settle r l) := by
  unfold Station.settle
  split
  · exact h.withLiu _ hr
  · exact (h.withLiu _ hr).reportDrop _ _

/-- Every message but a SPAN is posted so (R14). -/
theorem post (b : Block) (d : Nat) (m : Msg) (hm : m.code ≠ 0x31) : s.Keeps (x.post b d m) := by
  refine h.settle _ _ fun ok => ok.post (TxEntry.fresh_good _ _) fun hs => absurd ?_ hm
  simpa [TxEntry.fresh, Msg.frame, Frame.isSpan] using hs

theorem postOwn : s.Keeps x.postOwn := by
  unfold Station.postOwn
  split
  · exact h
  · exact settle (h.withSpan { x.span with restateTimer := some 200 } rfl) _ _ fun ok => ok.postSpan rfl

theorem withdrawSpan : s.Keeps x.withdrawSpan.1 := h.withLiu _ Liu.Ok.withdrawSpan

theorem countLateReply : s.Keeps x.countLateReply := h.withLiu _ fun ok => ok.receiver x.liu.receiver _

theorem countCallDropped : s.Keeps x.countCallDropped := h.withLiu _ fun ok => ok.receiver x.liu.receiver _

/-! ## Prompts.lean -/

theorem updatePrompt (n : Nat) (f : PromptEntry → PromptEntry) (hf : ∀ e, (f e).level = e.level) : s.Keeps (x.updatePrompt n f) := by
  refine h.withPrm _ rfl ?_
  rw [List.map_map]
  exact List.map_congr_left fun e _ => by dsimp only [Function.comp]; split <;> simp [hf]

theorem statePrompt (n : Nat) : s.Keeps (x.statePrompt n) := by
  have cleared := h.updatePrompt n (fun e => { e with heard := false, resend := none, drop := .none }) fun _ => rfl
  unfold Station.statePrompt
  dsimp only
  split
  · exact cleared.post _ _ _ (by simp [PromptEntry.msg, Msg.code])
  · exact cleared

theorem showPrompt (n : Nat) : s.Keeps (x.showPrompt n) :=
  (h.updatePrompt n (fun e => { e with shown := true }) fun _ => rfl).statePrompt n

theorem chooseShown : s.Keeps x.chooseShown := by
  unfold Station.chooseShown
  split
  · exact h.showPrompt _
  · exact h

theorem postClear (n : Nat) (r : ClearReason) : s.Keeps (x.postClear n r) :=
  post (h.withPrm { x.prm with clears := pushClear ⟨n, r, .none⟩ x.prm.clears } rfl rfl) _ _ _ (by simp [Msg.code])

theorem preempt (m n : Nat) : s.Keeps (x.preempt m n) :=
  ((h.updatePrompt m (fun e => { e with shown := false, heard := false, resend := none, drop := .none }) fun _ => rfl).postClear
    m .preempted).showPrompt n

theorem offerShown (n : Nat) (l : Level) : s.Keeps (x.offerShown n l) := by
  unfold Station.offerShown
  split
  · exact h.chooseShown
  · split
    · exact h.preempt _ _
    · exact h

theorem leavePrompt (n : Nat) (r : ClearReason) : s.Keeps (x.leavePrompt n r) := by
  unfold Station.leavePrompt
  split
  · exact h
  · dsimp only
    split
    · exact (h.postClear n r).relisted _ (Keeps.refl _).chooseShown
    · exact h.relisted _ (.refl _)

theorem withdrawPrompt (b : Block) (n : Nat) : s.Keeps (x.withdrawPrompt b n) := by
  unfold Station.withdrawPrompt
  split
  · split
    · exact h.leavePrompt _ _
    · exact h
  · exact h

theorem updateAcc (n : Nat) (f : AccRecord → AccRecord) : s.Keeps (x.updateAcc n f) := h.withAcc _

theorem forgetWaiting (n : Nat) : s.Keeps (x.forgetWaiting n) := by
  refine h.withReq _ ?_
  rw [RequestUnit.tags, List.map_map, List.map_congr_left (g := fun e => e.call.tag)]
  · exact .refl _
  · intro e _; dsimp only [Function.comp]; split <;> rfl

theorem toldDisplaced (e : PromptEntry) : s.Keeps (x.toldDisplaced e) := by
  unfold Station.toldDisplaced
  split
  · exact h.updateAcc _ _
  · exact h.forgetWaiting _

theorem toldExpired (e : PromptEntry) : s.Keeps (x.toldExpired e) := by
  unfold Station.toldExpired
  split
  · exact h.updateAcc _ _
  · exact h.forgetWaiting _

theorem acceptRaise (k : PromptKind) (f : PromptFields) : s.Keeps (x.acceptRaise k f).1 :=
  h.relisted _ ((Keeps.refl _).offerShown _ _)

theorem raise (k : PromptKind) (f : PromptFields) : s.Keeps (x.raise k f).1 := by
  unfold Station.raise
  split
  · exact h.acceptRaise k f
  · split
    · exact ((h.leavePrompt _ _).toldDisplaced _).acceptRaise k f
    · exact h

theorem raise_eq {k : PromptKind} {f : PromptFields} {n : Option Nat} (hr : x.raise k f = (y, n)) : s.Keeps y := by
  have := h.raise k f
  rwa [hr] at this

theorem setAcc (a : Subject) (f : AccRecord → AccRecord) : s.Keeps (x.setAcc a f) := h.withAcc _

theorem raiseSubject (a : Subject) : s.Keeps (x.raiseSubject a) := by
  unfold Station.raiseSubject
  split
  all_goals
    rename_i hr
    exact (h.raise_eq hr).setAcc _ _

theorem callFor (a : Subject) : s.Keeps (x.callFor a) := by
  unfold Station.callFor
  split
  · exact h.raiseSubject a
  · exact h

theorem causeGone (a : Subject) : s.Keeps (x.causeGone a) := by
  unfold Station.causeGone
  split
  · exact (h.setAcc _ _).withdrawPrompt _ _
  · exact h.setAcc _ _

theorem raiseWanted (l : List Subject) : s.Keeps (x.raiseWanted l) := foldl _ (fun _ a => (Keeps.refl _).raiseSubject a) l h

theorem expirePrompt (e : PromptEntry) : s.Keeps (x.expirePrompt e) := (h.leavePrompt _ _).toldExpired e

/-- An escalation raises a level, and BEACON follows (R162, R172). -/
theorem escalatePrompt (e : PromptEntry) : s.Keeps (x.escalatePrompt e) := by
  unfold Station.escalatePrompt
  split
  · exact h
  · dsimp only
    split
    · exact h.relisted _ ((Keeps.refl _).statePrompt _)
    · exact h.relisted _ ((Keeps.refl _).offerShown _ _)

theorem advanceDrops : s.Keeps x.advanceDrops := h.withPrm _ rfl (by simp [Function.comp_def])

theorem repostClear (c : ClearRecord) : s.Keeps (x.repostClear c) := by
  unfold Station.repostClear
  split
  · exact post (h.withPrm { x.prm with clears := x.prm.clears.erase c ++ [{ c with drop := .none }] } rfl rfl) _ _ _
      (by simp [Msg.code])
  · exact h.withPrm _ rfl rfl

theorem repostDropped : s.Keeps x.repostDropped := by
  unfold Station.repostDropped
  split
  · exact foldl _ (fun _ c => (Keeps.refl _).repostClear c) _ (foldl _ (fun _ e => (Keeps.refl _).statePrompt _) _ h)
  · exact h

theorem promptEcho (n : Nat) (l : Level) : s.Keeps (x.promptEcho n l) := h.updatePrompt n _ fun e => by split <;> rfl

theorem clearEcho (n : Nat) (r : ClearReason) : s.Keeps (x.clearEcho n r) := h.withPrm _ rfl rfl

/-! ## Spans.lean -/

theorem sendStop (c : StopCauses) : s.Keeps (x.sendStop c) := by
  unfold Station.sendStop
  split
  · exact h
  · exact h.withHalted _ fun _ => rfl

omit h in
theorem sendStop_halted (c : StopCauses) : (x.sendStop c).seq.Halted := by
  unfold Station.sendStop
  split
  next hn => exact Sequencer.halted_of_cmd_none hn
  next => exact fun _ => rfl

theorem stateOwn (o : OwnSpan) : s.Keeps (x.stateOwn o) := postOwn (h.withSpan { x.span with own := some o } rfl)

theorem updateRest : s.Keeps x.updateRest := by
  unfold Station.updateRest
  split
  · exact h
  · dsimp only
    split
    · split
      · exact h
      · exact h.stateOwn _
    · exact h.stateOwn _

theorem clearRailBlocked : s.Keeps x.clearRailBlocked := by
  have cleared := h.withSpan { x.span with railLatch := false, railPrompt := none } rfl
  unfold Station.clearRailBlocked
  dsimp only
  split
  · exact cleared.withdrawPrompt _ _
  · exact cleared

theorem raiseRailBlocked : s.Keeps x.raiseRailBlocked := by
  unfold Station.raiseRailBlocked
  split
  · exact h
  · split
    · split
      next hr => exact (h.raise_eq hr).withSpan _ rfl
      next hr => exact h.raise_eq hr
    · exact h

theorem ask (w : OwnSpan) (hm : x.span.reservation ≠ .granted ∨ x.seq.Halted) : s.Keeps (x.ask w) :=
  stateOwn (h.withReservation { x.span with reservation := .asking, waitTimer := none, firstFree := false } hm) w

theorem nudgePeer (w : OwnSpan) (p : PeerSpan) : s.Keeps (x.nudgePeer w p) := by
  have noted := h.withSpan { x.span with nudges := x.span.nudges ++ [NudgeRecord.mk p.addr 500] } rfl
  unfold Station.nudgePeer
  split
  · dsimp only
    split <;> exact noted.post _ _ _ (by simp [Msg.code])
  · exact h

/-- A move that is evaluated is in WAITING. -/
theorem evaluate : s.Keeps x.evaluate := by
  unfold Station.evaluate
  split
  next hw _ _ =>
    dsimp only
    split
    · exact h.ask _ (.inl (by simp [hw]))
    · exact foldl _ (fun _ p => (Keeps.refl _).nudgePeer _ p) _ h
  next => exact h

theorem beginMove (c t : Nat) (p : Purpose) (hm : x.span.reservation ≠ .granted ∨ x.seq.Halted) : s.Keeps (x.beginMove c t p) := by
  have moved := h.withSpan { x.span with move := some ⟨t, p⟩, retries := 0 } rfl
  unfold Station.beginMove
  dsimp only
  split
  · exact moved.ask _ hm
  · exact evaluate (moved.withReservation _ hm)

theorem requestMove (t : Nat) (p : Purpose) : s.Keeps (x.requestMove t p).1 := by
  unfold Station.requestMove
  split
  · exact h
  · split
    · exact h
    · split
      next hfit =>
        simp only [Bool.and_eq_true, beq_iff_eq] at hfit
        exact h.beginMove _ _ _ (.inl (by simp [hfit.1.2]))
      next => exact h

theorem requestMove_eq {t : Nat} {p : Purpose} {a : MoveAnswer} (hr : x.requestMove t p = (y, a)) : s.Keeps y := by
  have := h.requestMove t p
  rwa [hr] at this

theorem parkReservation (hm : x.span.reservation ≠ .granted ∨ x.seq.Halted) : s.Keeps x.parkReservation := h.withReservation _ hm

omit h in
theorem ownToRest_reservation (z : Station) : z.ownToRest.span.reservation = z.span.reservation := by
  unfold Station.ownToRest; split <;> rfl

omit h in
/-- Withdrawing a SPAN and taking the rest span as the own entry leave the reservation as it is. -/
theorem not_granted_of_asking (hr : x.span.reservation = .asking) : x.withdrawSpan.1.ownToRest.span.reservation ≠ .granted := by
  rw [ownToRest_reservation]
  simp [Station.withdrawSpan, hr]

theorem giveUpMove : s.Keeps x.giveUpMove := by
  unfold Station.giveUpMove
  split
  next => exact h.withSpan _ rfl
  next hr => exact (h.parkReservation (.inl (by simp [hr]))).clearRailBlocked
  next hr => exact (h.withdrawSpan.ownToRest.parkReservation (.inl (not_granted_of_asking hr))).postOwn.clearRailBlocked
  next => exact h

theorem giveWay : s.Keeps x.giveWay := by
  unfold Station.giveWay
  split
  next hr => exact (h.parkReservation (.inl (by simp [hr]))).clearRailBlocked
  next hr => exact (h.withdrawSpan.ownToRest.parkReservation (.inl (not_granted_of_asking hr))).clearRailBlocked
  next => exact h

theorem parkAt (p : Nat) (hx : x.seq.Halted) : s.Keeps (x.parkAt p) :=
  ((parkReservation (h.withSpan { x.span with rest := some p } rfl) (.inr hx)).clearRailBlocked).stateOwn _

theorem stoppedOnOwn (hx : x.seq.Halted) : s.Keeps x.stoppedOnOwn := by
  have parked := parkReservation (h.withSpan { x.span with rest := none } rfl) (.inr hx)
  unfold Station.stoppedOnOwn
  dsimp only
  split
  · exact parked.stateOwn _
  · exact parked

theorem holdSpan (hx : x.seq.Halted) : s.Keeps x.holdSpan := by
  unfold Station.holdSpan
  dsimp only
  split
  · have fixed := h.withdrawSpan.withSpan { x.withdrawSpan.1.span with
      held := [], own := x.heldOwn, rest := if x.span.reservation = Reservation.granted then none else x.span.rest } rfl
    exact (fixed.parkReservation (.inr hx)).postOwn.clearRailBlocked
  · have fixed := h.withSpan { x.span with
      held := [], own := x.heldOwn, rest := if x.span.reservation = Reservation.granted then none else x.span.rest } rfl
    exact (fixed.parkReservation (.inr hx)).postOwn.clearRailBlocked

theorem conditionCleared : s.Keeps x.conditionCleared := by
  unfold Station.conditionCleared
  split
  · exact h
  · exact h.updateRest.rescanPoint

theorem reportPosition (p : Nat) : s.Keeps (x.reportPosition p) := by
  have learnt := h.withSpan { x.span with rest := some p } rfl
  unfold Station.reportPosition
  dsimp only
  split
  · exact learnt.updateRest
  · exact learnt.updateRest.evaluate
  · split
    · exact learnt
    · exact learnt.stateOwn _
  · exact learnt

theorem spanEcho (k : SpanKind) (lo hi : Nat) (f : Bool) : s.Keeps (x.spanEcho k lo hi f) := by
  have heard : s.Keeps (if f then { x with span := { x.span with fresh := false } } else x) := by
    split
    · exact h.withSpan _ rfl
    · exact h
  unfold Station.spanEcho
  dsimp only
  split
  · exact heard
  · split
    · split
      next hr =>
        split
        · exact (heard.withReservation _ (.inl (by simp [hr]))).clearRailBlocked
        · exact heard.postOwn
      next =>
        split
        · exact heard
        · exact heard.postOwn
      next => exact heard.postOwn
    · exact heard

theorem peerHeard (a : Nat) : s.Keeps (x.peerHeard a) := by
  have gone := h.withSpan { x.span with silent := x.span.silent.filter fun r => r.addr != a } rfl
  unfold Station.peerHeard
  dsimp only
  split
  · split
    · exact gone.withdrawPrompt _ _
    · exact gone
  · exact gone

theorem loseAsking (hr : x.span.reservation = .asking) : s.Keeps x.loseAsking := by
  have waits := h.withdrawSpan.ownToRest.withReservation
    { x.withdrawSpan.1.ownToRest.span with reservation := .waiting, waitTimer := some 500, firstFree := false }
    (.inl (not_granted_of_asking hr))
  unfold Station.loseAsking
  dsimp only
  split
  · exact waits.postOwn.evaluate
  · exact waits.evaluate

/-- Where the grant is lost, STOP is issued for its TRAVEL first (R114). -/
theorem loseGrant : s.Keeps x.loseGrant := by
  have stopped : s.Keeps (if x.seq.travelling then x.sendStop ⟨false, true, false⟩ else x) ∧
      (if x.seq.travelling then x.sendStop ⟨false, true, false⟩ else x).seq.Halted := by
    split
    next => exact ⟨h.sendStop _, sendStop_halted _⟩
    next ht => exact ⟨h, fun hc => absurd hc ht⟩
  obtain ⟨kept, halted⟩ := stopped
  unfold Station.loseGrant
  dsimp only
  generalize (if x.seq.travelling then x.sendStop ⟨false, true, false⟩ else x) = z at kept halted ⊢
  have waits := kept.withReservation
    { z.span with reservation := .waiting, waitTimer := some 500, firstFree := false, rest := none } (.inr halted)
  split
  · split
    · exact (waits.stateOwn _).giveUpMove
    · exact waits.giveUpMove
  · split
    · exact waits.stateOwn _
    · exact waits

theorem challenged (o : OwnSpan) (i : Nat) (r : Bool) : s.Keeps (x.challenged o i r) := by
  unfold Station.challenged
  split
  · split
    · exact h
    · exact h.loseGrant
  · exact h.stateOwn _

theorem reserveAgainst (i lo hi : Nat) (r : Bool) : s.Keeps (x.reserveAgainst i lo hi r) := by
  unfold Station.reserveAgainst
  split
  next hr _ =>
    split
    · exact h.loseAsking hr
    · exact h
  next =>
    split
    · exact h.challenged _ _ _
    · exact h
  next => exact h.evaluate
  next => exact h

theorem peerSpan (a i : Nat) (k : SpanKind) (lo hi : Nat) (r : Bool) : s.Keeps (x.peerSpan a i k lo hi r) :=
  (peerHeard (x := x.enterPeer _) (h.withSpan _ rfl) a).reserveAgainst i lo hi r

theorem serveNudges (c : Nat) (l : List HeldNudge) (hx : x.seq.Halted) : s.Keeps (x.serveNudges c l) := by
  induction l with
  | nil => exact h.withSpan _ rfl
  | cons n rest ih =>
    unfold Station.serveNudges
    dsimp only
    split
    · exact ih
    · have left := h.withSpan { x.span with held := rest } rfl
      split
      · exact left.beginMove _ _ _ (.inr hx)
      · exact left.giveWay.beginMove _ _ _ (.inr ((Keeps.refl _).giveWay.halted hx))

omit h in
theorem halted_of_idle {q : Sequencer} (hi : q.idle = true) : q.Halted := by
  simp only [Sequencer.idle, Bool.and_eq_true, Option.isNone_iff_eq_none] at hi
  exact Sequencer.halted_of_cmd_none hi.1

theorem serveHeld : s.Keeps x.serveHeld := by
  unfold Station.serveHeld
  split
  · split
    next hs =>
      simp only [Bool.and_eq_true] at hs
      exact h.serveNudges _ _ (halted_of_idle hs.1.1.1.1)
    next => exact h
  · exact h

theorem takeNudge (w : Bool) (b r : Nat) : s.Keeps (x.takeNudge w b r) := by
  unfold Station.takeNudge
  dsimp only
  generalize (!w) = east
  generalize (if east then decide (x.k ≤ r) else decide (r ≤ x.k)) = wrongSide
  split
  · exact h
  · split
    · exact h.withSpan _ rfl
    · split
      · exact h.postOwn
      · exact serveHeld (h.withSpan _ rfl)

theorem waitExpired : s.Keeps x.waitExpired := by
  have counted : s.Keeps (if x.span.firstFree then x else { x with span := { x.span with retries := min (x.span.retries + 1) 3 } }) := by
    split
    · exact h
    · exact h.withSpan _ rfl
  exact evaluate (counted.raiseRailBlocked.withSpan _ rfl)

theorem railAnswered : s.Keeps x.railAnswered := by
  have answered := h.withSpan { x.span with railLatch := false, railPrompt := none, retries := 0 } rfl
  unfold Station.railAnswered
  dsimp only
  split
  · exact evaluate (answered.withSpan _ rfl)
  · exact answered

theorem raiseSilent (a : Nat) : s.Keeps (x.raiseSilent a) := by
  unfold Station.raiseSilent
  split
  next hr => exact (h.raise_eq hr).withSpan _ rfl
  next hr => exact h.raise_eq hr

end Station.Keeps

end Sys2Proof.Machine
end

section
/-! What the carriage's, the claims' and the accounts' operations keep, and the end of an event. -/

namespace Sys2Proof.Machine
namespace Station.Keeps

variable {s x y : Station} (h : s.Keeps x)
include h

/-! ## Carriage.lean -/

/-- A command that is no TRAVEL needs no grant. -/
theorem issue (c : Command) (p : Purpose) (hc : c.isTravel = false) : s.Keeps (x.issue c p) := by
  refine h.withHalted _ fun ht => ?_
  cases c <;> simp_all [Sequencer.travelling, Command.isTravel]

theorem issueCheck : s.Keeps x.issueCheck :=
  issue (h.withSeq { x.seq with doorReportOwed := false, handReportOwed := false } rfl) _ _ rfl

theorem updateRecord (f : ReqRecord → ReqRecord) : s.Keeps (x.updateRecord f) := h.withSeq _ rfl

theorem raiseBound (k : PromptKind) (r : Stage) (p d : Option Nat) : s.Keeps (x.raiseBound k r p d) := by
  unfold Station.raiseBound
  split
  · exact (h.raise k _).updateRecord _
  · exact h

theorem postDone (d : Done) : s.Keeps (x.postDone d) := by
  unfold Station.postDone
  dsimp only
  refine post (h.withSeq _ ?_) _ _ _ ?_
  · rfl
  · simp [Msg.code]

theorem complete : s.Keeps x.complete := by
  unfold Station.complete
  split
  · exact (h.updateRecord _).postDone _
  · exact h

theorem doneEcho (d : Done) : s.Keeps (x.doneEcho d) := h.withSeq _ rfl

theorem repostDone : s.Keeps x.repostDone := by
  unfold Station.repostDone
  dsimp only
  refine foldl (fun z (d : DoneRecord) => z.post .sequencer 63 (.done d.done)) (fun z d => ?_) _ (h.withSeq _ ?_)
  · exact (Keeps.refl z).post _ _ _ (by simp [Msg.code])
  · rfl

theorem raiseFault : s.Keeps x.raiseFault := by
  unfold Station.raiseFault
  split
  · exact h
  · exact (h.raise _ _).withSeq _ rfl

theorem learningFault : s.Keeps x.learningFault := by
  unfold Station.learningFault
  dsimp only
  refine stateOwn (h.withSeq _ ?_) _
  rfl

/-- An open fault ends the command in flight before the span is held (R144). -/
theorem openFault (c : Command) (p : Purpose) : s.Keeps (x.openFault c p) := by
  have ended : (Sequencer.Halted { x.seq with
      cmd := none, stop := none, fault := some ⟨c, p, none, none, false, false, false⟩,
      resume := if x.seq.resume = some (c, p) then none else x.seq.resume,
      posKnown := x.seq.posKnown && !c.isTravel }) := Sequencer.halted_of_cmd_none rfl
  have opened := h.withHalted _ ended
  unfold Station.openFault
  dsimp only
  split
  · exact opened.raiseFault
  · split
    · exact opened.learningFault.raiseFault
    · exact (opened.holdSpan ended).raiseFault

theorem raiseHandLoaded : s.Keeps x.raiseHandLoaded := (h.raise _ _).withSeq _ rfl

theorem orphanRaise : s.Keeps x.orphanRaise := by
  unfold Station.orphanRaise
  split
  · exact h.raiseHandLoaded
  · exact h

theorem handEmptied : s.Keeps x.handEmptied := by
  have emptied := h.withSeq { x.seq with
    hand := .empty, putBack := none, handPrompt := none, handRaiseOwed := false, handReportOwed := false } rfl
  unfold Station.handEmptied
  dsimp only
  split
  · exact emptied.withdrawPrompt _ _
  · exact emptied

theorem pickOk : s.Keeps x.pickOk := by
  unfold Station.pickOk
  split
  · exact h
  · exact updateRecord (h.withSeq { x.seq with hand := .request } rfl) _

theorem orphaned (p : Place) : s.Keeps (x.orphaned p) := h.withSeq _ rfl

theorem placeOk : s.Keeps x.placeOk := by
  have empty := h.withSeq { x.seq with hand := .empty } rfl
  unfold Station.placeOk
  split
  · exact h
  · split
    · exact empty.complete
    · split
      · exact empty.raiseBound _ _ _ _
      · exact h

theorem takeUp (c : Command) (p : Purpose) : s.Keeps (x.takeUp c p) := by
  unfold Station.takeUp
  repeat' split
  all_goals
    first
    | exact h
    | exact h.pickOk
    | exact h.orphaned _
    | exact h.handEmptied
    | exact h.placeOk

theorem takeUpResume : s.Keeps x.takeUpResume := by
  have taken := h.withSeq { x.seq with resume := none } rfl
  unfold Station.takeUpResume
  split
  · exact h
  · split
    · exact taken
    · exact h
  · exact taken.takeUp _ _

omit h in
theorem resumeTaken_cmd (q : Sequencer) (p : Purpose) : (q.resumeTaken p).cmd = q.cmd := by
  unfold Sequencer.resumeTaken; split <;> rfl

theorem askMove (t : Nat) (p : Purpose) : s.Keeps (x.askMove t p) := by
  unfold Station.askMove
  split
  · exact h
  · split
    next hr => exact (h.requestMove_eq hr).withSeq _ (resumeTaken_cmd _ _)
    next => exact h
    next => exact h.withSeq _ rfl

omit h in
/-- A stage's own command is no TRAVEL (R134 to R138). -/
theorem command_isTravel {p : Place} {st : Stage} {c : Command} (hc : st.command p = some c) : c.isTravel = false := by
  cases st <;> simp only [Stage.command, Option.some.injEq, reduceCtorEq] at hc <;> subst hc <;> rfl

theorem stageStep : s.Keeps x.stageStep := by
  unfold Station.stageStep
  split
  · split
    · exact h
    · split
      · exact h.raiseBound _ _ _ _
      · split
        · split
          · dsimp only
            split
            next hc => exact (h.updateRecord _).issue _ _ (command_isTravel hc)
            next => exact h.updateRecord _
          · exact h.askMove _ _
        · split
          next hc => exact h.issue _ _ (command_isTravel hc)
          next => exact h
  · exact h

theorem putBackStep : s.Keeps x.putBackStep := by
  unfold Station.putBackStep
  split
  · exact h
  · split
    · exact h.issue _ _ rfl
    · exact h.askMove _ _

theorem abandon (t : Tag) : s.Keeps (x.abandon t) := by
  unfold Station.abandon
  split
  · exact h
  · split
    · split
      · split
        · exact (h.withdrawPrompt _ _).postDone _
        · exact h.postDone _
      · exact h.postDone _
    · exact h.postDone _

theorem abandonAll (f : FaultRecord) : s.Keeps (x.abandonAll f) :=
  (foldl _ (fun _ t => (Keeps.refl _).abandon t) _ h).withSeq _ rfl

theorem faultStep (f : FaultRecord) : s.Keeps (x.faultStep f) := by
  unfold Station.faultStep
  split
  · exact h
  · dsimp only
    split
    · refine issue ((h.abandonAll f).withSeq _ ?_) _ _ ?_ <;> rfl
    · refine issue (h.withSeq _ ?_) _ _ ?_ <;> rfl

theorem nextStep : s.Keeps x.nextStep := by
  unfold Station.nextStep
  repeat' split
  · exact h.faultStep _
  · exact h.issueCheck
  · exact h
  · exact h.askMove _ _
  · exact h.putBackStep
  · exact h.stageStep

omit h in
theorem dropped_cmd_halted {q : Sequencer} (hq : q.Halted) : ({ q with cmd := q.cmd.map InFlight.dropped } : Sequencer).Halted := by
  unfold Sequencer.Halted Sequencer.travelling at *
  cases hc : q.cmd with
  | none => simp
  | some f =>
    obtain ⟨c, p, n, k, o⟩ := f
    rw [hc] at hq
    cases c <;> by_cases hp : p = .stage <;> simp_all [InFlight.dropped]

/-- A command in flight keeps its STOPs when its request is dropped (R143). -/
theorem dropCommand : s.Keeps { x with seq := { x.seq with cmd := x.seq.cmd.map InFlight.dropped } } := by
  refine h.trans ⟨id, .refl _, fun ht hc => ?_, dropped_cmd_halted, id, id⟩
  by_cases hr : x.span.reservation = .granted
  · exact .inl hr
  · exact .inr (dropped_cmd_halted (ht.halted hr) hc)

/-- The end of a drop: STOP for the TRAVEL of a stage, and the record cleared (R143). -/
theorem dropStop : s.Keeps
    (let y := if x.seq.stageTravels then x.sendStop ⟨false, false, true⟩ else x
     { y with seq := { y.seq with
        record := none, moveRefused := false,
        resume := if y.seq.resume.any fun u => u.2 == .stage then none else y.seq.resume } }) := by
  dsimp only
  split
  · refine (h.sendStop ⟨false, false, true⟩).withSeq _ ?_
    rfl
  · exact h.withSeq _ rfl

/-- What is left of a drop once the request's prompt is withdrawn (R115, R143). -/
theorem dropStage : s.Keeps
    (let x2 := if x.span.move.any fun m => m.purpose == .stage then x.giveUpMove else x
     let x3 := { x2 with seq := { x2.seq with cmd := x2.seq.cmd.map InFlight.dropped } }
     let x4 := if x3.seq.stageTravels then x3.sendStop ⟨false, false, true⟩ else x3
     { x4 with seq := { x4.seq with
        record := none, moveRefused := false,
        resume := if x4.seq.resume.any fun u => u.2 == .stage then none else x4.seq.resume } }) := by
  have given : s.Keeps (if x.span.move.any fun m => m.purpose == .stage then x.giveUpMove else x) := by
    split
    · exact h.giveUpMove
    · exact h
  exact given.dropCommand.dropStop

theorem dropRequest (t : Tag) : s.Keeps (x.dropRequest t) := by
  unfold Station.dropRequest
  split
  · exact h
  next r _ =>
    split
    · exact h
    · split
      · exact (h.withdrawPrompt _ _).dropStage
      · exact h.dropStage

theorem recordResume (f : InFlight) : s.Keeps (x.recordResume f) := by
  unfold Station.recordResume
  split
  · exact h.withSeq _ rfl
  · exact h

theorem arriveAt (p : Nat) (hx : x.seq.Halted) : s.Keeps (x.arriveAt p) := by
  have learnt := h.withSeq { x.seq with pos := some p, posKnown := true } rfl
  unfold Station.arriveAt
  dsimp only
  split
  · exact learnt.parkAt p hx
  · exact learnt.reportPosition p

theorem travelDone (f : InFlight) (t : Nat) (c : Code) (hx : x.seq.Halted) : s.Keeps (x.travelDone f t c) := by
  unfold Station.travelDone
  split
  · dsimp only
    split
    · exact (h.arriveAt t hx).withSeq _ rfl
    · exact h.arriveAt t hx
  · have unknown := h.withSeq { x.seq with posKnown := false } rfl
    dsimp only
    split
    · exact (unknown.stoppedOnOwn hx).recordResume f
    · exact unknown.recordResume f
  · exact h.openFault _ _

theorem pickEnd (f : InFlight) (p : Place) (c : Code) : s.Keeps (x.pickEnd f p c) := by
  unfold Station.pickEnd
  repeat' split
  · exact h.orphaned p
  · exact h.pickOk
  · exact h
  · exact h.raiseBound _ _ _ _
  · exact h
  · exact h.recordResume f
  · exact h.openFault _ _

theorem raiseOccupied (p : Place) : s.Keeps (x.raiseOccupied p) := by
  unfold Station.raiseOccupied
  split
  · exact h.raiseBound _ _ _ _
  · exact h

theorem putBackEnd (f : InFlight) (c : Code) : s.Keeps (x.putBackEnd f c) := by
  have ended := orphanRaise (h.withSeq { x.seq with putBack := none } rfl)
  unfold Station.putBackEnd
  split
  · exact h.handEmptied
  · exact h.openFault _ _
  · exact ended
  · exact ended
  · exact ended

theorem placeEnd (f : InFlight) (p : Place) (c : Code) : s.Keeps (x.placeEnd f p c) := by
  unfold Station.placeEnd
  repeat' split
  · exact h.putBackEnd f c
  · exact h.withSeq _ rfl
  · exact h.placeOk
  · exact h
  · exact h.raiseOccupied p
  · exact h.recordResume f
  · exact h.openFault _ _
  · exact h.openFault _ _

theorem labelOk (u w1 w2 w3 : Word) : s.Keeps (x.labelOk u w1 w2 w3) := by
  unfold Station.labelOk
  repeat' split
  · exact h.updateRecord _
  · exact h.raiseBound _ _ _ _
  · exact h

theorem labelEnd (f : InFlight) (u w1 w2 w3 : Word) (c : Code) : s.Keeps (x.labelEnd f u w1 w2 w3 c) := by
  unfold Station.labelEnd
  repeat' split
  · exact h
  · exact h.labelOk _ _ _ _
  · exact h.recordResume f
  · exact h.openFault _ _

theorem ringEnd (f : InFlight) (w : Word) (c : Code) : s.Keeps (x.ringEnd f w c) := by
  unfold Station.ringEnd
  repeat' split
  · exact h
  · exact h.updateRecord _
  · exact h.updateRecord _
  · exact h.recordResume f
  · exact h.openFault _ _

theorem retryDone (f : FaultRecord) (p : Nat) : s.Keeps (x.retryDone f p) :=
  (((reportPosition (h.withSeq { x.seq with fault := none } rfl) p).conditionCleared).takeUp _ _).takeUpResume

theorem releaseDone (f : FaultRecord) (p : Nat) (l : Bool) : s.Keeps (x.releaseDone f p l) := by
  unfold Station.releaseDone
  split
  · exact (reportPosition (h.withSeq { x.seq with
      hand := .orphan, fault := some ⟨f.cmd, f.purpose, none, none, false, false, true⟩ } rfl) p).raiseFault
  · exact (reportPosition (h.withSeq { x.seq with fault := none } rfl) p).conditionCleared

theorem reportOk (p : Nat) (l : Bool) : s.Keeps (x.reportOk p l) := by
  have learnt := h.withSeq { x.seq with pos := some p, posKnown := true, hand := handAfter x.seq.hand l } rfl
  have ends {z : Station} (hz : s.Keeps z) : s.Keeps (if l then z.orphanRaise else z.handEmptied) := by
    split
    · exact hz.orphanRaise
    · exact hz.handEmptied
  unfold Station.reportOk
  dsimp only
  refine ends ?_
  split
  · split
    · exact learnt.retryDone _ p
    · exact learnt.releaseDone _ p l
    · exact learnt.reportPosition p
  · exact (learnt.reportPosition p).takeUpResume

theorem releaseStopped (f : FaultRecord) : s.Keeps (x.releaseStopped f) := by
  unfold Station.releaseStopped
  split
  · exact raiseFault (h.withSeq { x.seq with fault := some ⟨.report, .check, none, none, false, false, false⟩ } rfl)
  · exact h

theorem reportEnd (f : InFlight) (p l : Word) (c : Code) : s.Keeps (x.reportEnd f p l c) := by
  unfold Station.reportEnd
  repeat' split
  · exact h.reportOk _ _
  · exact h.releaseStopped _
  · exact h
  · exact h.openFault _ _

theorem stopEnd (w : Word) : s.Keeps (x.stopEnd w) := by
  unfold Station.stopEnd
  repeat' split
  · exact h
  · exact h.withSeq _ rfl
  · exact h.openFault _ _

theorem boundEffect (r : ReqRecord) (c : Call) (k : PromptKind) (a : Answer) : s.Keeps (x.boundEffect r c k a) := by
  unfold Station.boundEffect
  dsimp only
  split
  all_goals
    first
    | exact h.updateRecord _
    | exact (h.updateRecord _).complete
    | exact h

theorem boundAnswer (n : Nat) (k : PromptKind) (a : Answer) : s.Keeps (x.boundAnswer n k a) := by
  unfold Station.boundAnswer
  repeat' split
  · exact (h.updateRecord _).boundEffect _ _ _ _
  · exact h
  · exact h

theorem handAnswer (n : Nat) : s.Keeps (x.handAnswer n) := by
  unfold Station.handAnswer
  split
  · exact h.withSeq _ rfl
  · exact h

/-- The latch has STOP issued before the span is held (R148). -/
theorem setLatch : s.Keeps x.setLatch :=
  (sendStop (h.withSeq { x.seq with doorLatch := true, door := { x.seq.door with timer := some (100 * x.k) } } rfl) _).holdSpan
    (sendStop_halted _)

theorem raiseDoor : s.Keeps x.raiseDoor := (h.raise _ _).withSeq _ rfl

theorem doorTimerEnd : s.Keeps x.doorTimerEnd := by
  have ended := h.withSeq { x.seq with door := { x.seq.door with timer := none } } rfl
  unfold Station.doorTimerEnd
  dsimp only
  split
  · exact ended.raiseDoor
  · exact ended

theorem doorHeard (o : Bool) (a n : Nat) : s.Keeps (x.doorHeard o a n) := h.withSeq _ rfl

theorem doorRelease : s.Keeps x.doorRelease := by
  unfold Station.doorRelease
  split
  · split
    · exact h
    · dsimp only
      split
      · exact conditionCleared ((h.withdrawPrompt _ _).withSeq _ rfl)
      · exact conditionCleared (h.withSeq _ rfl)
  · exact h.withSeq _ rfl

theorem retryRaises : s.Keeps x.retryRaises := by
  have fault : s.Keeps (if x.seq.fault.any fun f => f.raiseOwed then x.raiseFault else x) := by
    split
    · exact h.raiseFault
    · exact h
  unfold Station.retryRaises
  dsimp only
  generalize (if x.seq.fault.any fun f => f.raiseOwed then x.raiseFault else x) = z at fault ⊢
  have door : s.Keeps (if z.seq.door.raiseOwed && z.seq.doorLatch && !z.seq.door.heard then z.raiseDoor else z) := by
    split
    · exact fault.raiseDoor
    · exact fault
  generalize (if z.seq.door.raiseOwed && z.seq.doorLatch && !z.seq.door.heard then z.raiseDoor else z) = w at door ⊢
  split
  · exact door.raiseHandLoaded
  · exact door

/-! ## Claims.lean -/

theorem withdrawWaiting (t : Tag) : s.Keeps (x.withdrawWaiting t) := by
  unfold Station.withdrawWaiting
  split
  · exact h
  · exact (h.updateEntry t (fun e => { e with prompt := none }) fun _ => rfl).withdrawPrompt _ _

theorem endOffer (t : Tag) : s.Keeps (x.endOffer t) := by
  unfold Station.endOffer
  split
  · exact h.rescanPoint
  · exact h

theorem removeEntry (t : Tag) : s.Keeps (x.removeEntry t) := by
  refine ((h.endOffer t).withdrawWaiting t).withReq _ ?_
  exact List.filter_sublist.map _

theorem setPeer (t : Tag) (o : Owner) : s.Keeps (x.setPeer t o) :=
  ((h.endOffer t).withdrawWaiting t).updateEntry t (Entry.toPeer o) fun _ => rfl

theorem postOffer (t : Tag) (c b : Nat) : s.Keeps (x.postOffer t c b) :=
  (h.updateEntry t (fun e => { e with state := .bidding, ownOffer := some ⟨c, b, false⟩ }) fun _ => rfl).post _ _ _
    (by simp [Msg.code])

theorem offerOn (e : Entry) : s.Keeps (x.offerOn e) := by
  unfold Station.offerOn
  repeat' split
  · exact h.postOffer _ _ _
  · exact h
  · exact h

theorem counterOffer (t : Tag) (o : Offer) : s.Keeps (x.counterOffer t o) := by
  unfold Station.counterOffer
  repeat' split
  · exact h
  · exact h.postOffer _ _ _
  · exact h
  · exact h
  · exact h

theorem reassert (t : Tag) : s.Keeps (x.reassert t) :=
  (h.updateEntry t (fun e => { e with reassert := some (x.reelHeld t) }) fun _ => rfl).post _ _ _ (by simp [Msg.code])

theorem offerEcho (t : Tag) : s.Keeps (x.offerEcho t) := h.updateEntry t _ fun _ => rfl

theorem offerHeard (w : Bool) (t : Tag) (o : Offer) : s.Keeps (x.offerHeard w t o) := by
  have echo : s.Keeps (if w then x.offerEcho t else x) := by
    split
    · exact h.offerEcho t
    · exact h
  unfold Station.offerHeard
  dsimp only
  generalize (if w then x.offerEcho t else x) = z at echo ⊢
  have opened := echo.updateEntry t (Entry.opened o) fun _ => rfl
  have reopened := echo.updateEntry t (fun e => { e.opened o with owner := none }) fun _ => rfl
  repeat' split
  · exact echo
  · exact opened
  · exact opened.counterOffer t o
  · exact echo.updateEntry t (Entry.bidFurther o) fun _ => rfl
  · exact echo
  · exact echo
  · exact echo.reassert t
  · exact reopened
  · exact reopened.counterOffer t o
  · exact echo

theorem takeCall (t : Tag) (c : Nat) : s.Keeps (x.takeCall t c) := by
  have taking := h.updateEntry t (fun e => { e with state := .taking, phase := .none, hold := false, rival := false }) fun _ => rfl
  unfold Station.takeCall
  dsimp only
  refine (withdrawWaiting (taking.withClaims _ ?_) t).post _ _ _ ?_
  · rfl
  · simp [Msg.code]

theorem windowExpired (t : Tag) : s.Keeps (x.windowExpired t) := by
  unfold Station.windowExpired
  repeat' split
  · exact h
  · exact h
  · exact h.takeCall t _
  · exact h.updateEntry t _ fun _ => rfl
  · exact h.updateEntry t _ fun _ => rfl
  · exact h.updateEntry t _ fun _ => rfl

theorem takeWaitExpired (t : Tag) : s.Keeps (x.takeWaitExpired t) := by
  unfold Station.takeWaitExpired
  repeat' split
  · exact h
  · exact (h.endOffer t).updateEntry t _ fun _ => rfl
  · exact h

theorem holdEnded (t : Tag) : s.Keeps (x.holdEnded t) := by
  have owned := h.updateEntry t Entry.toOwned fun _ => rfl
  have handed : s.Keeps (if (x.updateEntry t Entry.toOwned).req.active = none then (x.updateEntry t Entry.toOwned).handOver t
      else x.updateEntry t Entry.toOwned) := by
    split
    · exact owned.handOver t
    · exact owned
  unfold Station.holdEnded
  split
  · exact h
  · split
    · dsimp only
      split
      · exact handed.reassert t
      · exact handed
    · exact h

theorem takeEcho (t : Tag) : s.Keeps (x.takeEcho t) := h.updateEntry t _ fun e => by split <;> rfl

theorem yieldTo (t : Tag) (o : Owner) : s.Keeps (x.yieldTo t o) := (h.setPeer t o).leaveOwned t

theorem loseOwned (t : Tag) (o : Owner) : s.Keeps (x.loseOwned t o) := ((h.setPeer t o).dropRequest t).leaveOwned t

theorem settleOwned (t : Tag) (e : Entry) (o : Owner) : s.Keeps (x.settleOwned t e o) := by
  unfold Station.settleOwned
  dsimp only
  repeat' split
  · exact h.reassert t
  · exact h.reassert t
  · exact h.loseOwned t o
  · exact h
  · exact h.reassert t

theorem takeHeard (t : Tag) (o : Owner) : s.Keeps (x.takeHeard t o) := by
  unfold Station.takeHeard
  repeat' split
  · exact h
  · exact h.setPeer t o
  · exact h.setPeer t o
  · exact h.updateEntry t _ fun _ => rfl
  · exact h.yieldTo t o
  · exact h.settleOwned t _ o
  · exact h.updateEntry t _ fun _ => rfl
  · exact h

theorem ownDone (t : Tag) : s.Keeps (x.ownDone t) := by
  unfold Station.ownDone
  split
  · exact (h.removeEntry t).leaveOwned t
  · exact h

theorem peerDone (t : Tag) : s.Keeps (x.peerDone t) := by
  unfold Station.peerDone
  repeat' split
  · exact h
  · exact (h.removeEntry t).leaveOwned t
  · exact h
  · exact ((h.removeEntry t).dropRequest t).leaveOwned t
  · exact h.removeEntry t

theorem reopen (a : Nat) : s.Keeps (x.reopen a) := by
  unfold Station.reopen
  split
  · refine rescanPoint (h.withReq _ ?_)
    rw [RequestUnit.tags, List.map_map, List.map_congr_left (g := fun e => e.call.tag)]
    · exact .refl _
    · intro e _; dsimp only [Function.comp, Entry.reopened]; split <;> rfl
  · exact h

theorem rescanEntries (n : Nat) (l : List Entry) : s.Keeps (x.rescanEntries n l) := by
  induction l generalizing x n with
  | nil => cases n <;> exact h
  | cons e es ih =>
    cases n with
    | zero => exact h
    | succ n =>
      unfold Station.rescanEntries
      split
      · exact ih (h.postOffer _ _ _) n
      · exact ih h _

theorem doRescan : s.Keeps x.doRescan := by
  have made := h.withClaims { x.req with rescan := false } rfl
  unfold Station.doRescan
  dsimp only
  repeat' split
  · exact made.rescanEntries _ _
  · exact made
  · exact h

theorem ageOut : s.Keeps x.ageOut := foldl _ (fun _ _ => (Keeps.refl _).removeEntry _) _ h

theorem raiseWaiting (e : Entry) : s.Keeps (x.raiseWaiting e) := by
  unfold Station.raiseWaiting
  split
  next hr => exact (h.raise_eq hr).updateEntry _ _ fun _ => rfl
  next hr => exact h.raise_eq hr

theorem raiseAllWaiting : s.Keeps x.raiseAllWaiting := foldl _ (fun _ e => (Keeps.refl _).raiseWaiting e) _ h

theorem noticeWaiting (t : Tag) : s.Keeps (x.noticeWaiting t) := h.updateEntry t _ fun _ => rfl

end Station.Keeps

end Sys2Proof.Machine
end

section
/-! What the Accounting Unit's operations keep of the retained store (R176, R179, R184 to R187, R190), and with them the relation
`Station.Keeps`. -/

namespace Sys2Proof.Machine

/-! ## Counts and tables -/

theorem satAdd_le (limit a b : Nat) : satAdd limit a b ≤ limit := Nat.min_le_right _ _

theorem inc16_le (a : Nat) : inc16 a ≤ 65535 := satAdd_le 65535 a 1

theorem inc16_mono {a b : Nat} (h : a ≤ b) : inc16 a ≤ inc16 b := by
  simp only [inc16_eq_min]; omega

theorem le_inc16 {a : Nat} (h : a ≤ 65535) : a ≤ inc16 a := by
  simp only [inc16_eq_min]; omega

namespace Slot.Ok

/-- A count raised or not stays below the mounts, which are raised (R176). -/
theorem count_le {n m : Nat} (b : Bool) (h : n ≤ m) (hm : m ≤ 65535) : (if b then inc16 n else n) ≤ inc16 m := by
  split
  · exact inc16_mono h
  · exact h.trans (le_inc16 hm)

theorem add {x : Slot} (h : x.Ok) (i : Increment) : (x.add i).Ok := by
  obtain ⟨mounts, ring, assisted, seconds⟩ := h
  cases i with
  | mount a r b => exact ⟨inc16_le _, count_le r ring mounts, count_le b assisted mounts, seconds⟩
  | occupancy a sec => exact ⟨mounts, ring, assisted, satAdd_le _ _ _⟩

theorem withAccount {x : Slot} (h : x.Ok) (a : Option Nat) : ({ x with account := a } : Slot).Ok := h

end Slot.Ok

theorem chargeFirst_ok {p : Slot → Bool} {f : Slot → Slot} (hf : ∀ x, x.Ok → (f x).Ok) {l l' : List Slot}
    (h : chargeFirst p f l = some l') (hl : ∀ x ∈ l, x.Ok) : l'.length = l.length ∧ ∀ x ∈ l', x.Ok := by
  induction l generalizing l' with
  | nil => simp [chargeFirst] at h
  | cons y ys ih =>
    rw [List.forall_mem_cons] at hl
    simp only [chargeFirst] at h
    split at h
    · obtain rfl := Option.some.inj h
      exact ⟨rfl, List.forall_mem_cons.2 ⟨hf y hl.1, hl.2⟩⟩
    · obtain ⟨m, hm, rfl⟩ := Option.map_eq_some_iff.1 h
      obtain ⟨hlen, hok⟩ := ih hm hl.2
      exact ⟨by simp [hlen], List.forall_mem_cons.2 ⟨hl.1, hok⟩⟩

theorem chargeSlots_ok {i : Increment} {l l' : List Slot} (h : chargeSlots i l = some l') (hl : ∀ x ∈ l, x.Ok) :
    l'.length = l.length ∧ ∀ x ∈ l', x.Ok := by
  unfold chargeSlots at h
  split at h
  next m hm =>
    obtain rfl := Option.some.inj h
    exact chargeFirst_ok (fun x hx => hx.add i) hm hl
  · exact chargeFirst_ok (fun x hx => (hx.withAccount _).add i) h hl

theorem Slot.add_account (x : Slot) (i : Increment) : (x.add i).account = x.account := by cases i <;> rfl

namespace AccountTable.Ok

theorem charge {t : AccountTable} (h : t.Ok) (i : Increment) : (t.charge i).1.Ok := by
  obtain ⟨length, slots, account, overflow⟩ := h
  unfold AccountTable.charge
  split
  next l hl =>
    obtain ⟨hlen, hok⟩ := chargeSlots_ok hl slots
    exact ⟨hlen.trans length, hok, account, overflow⟩
  · exact ⟨length, slots, (Slot.add_account _ i).trans account, overflow.add i⟩

theorem cleared : AccountTable.cleared.Ok :=
  ⟨by simp [AccountTable.cleared], fun x hx => by
    obtain rfl := List.eq_of_mem_replicate hx
    simp [Slot.Ok, Slot.empty], rfl, by simp [Slot.Ok, AccountTable.cleared]⟩

theorem all {t : AccountTable} (h : t.Ok) : ∀ x ∈ t.all, x.Ok := by
  obtain ⟨-, slots, -, overflow⟩ := h
  simp only [AccountTable.all, List.mem_append, List.mem_singleton]
  rintro x (hx | rfl)
  · exact slots x hx
  · exact overflow

end AccountTable.Ok

/-! ## The store -/

/-- The contents of a retained store whose latch says they are good. -/
structure RetainedStore.Good (st : RetainedStore) : Prop where
  table : st.table.Ok
  snapshot : ∀ x ∈ st.snapshot.records, x.Ok
  pending : st.pendingIncs.length ≤ 8
  drives : st.drives.length = 32
  occLost : st.occLost ≤ 65535
  occEstimated : st.occEstimated ≤ 65535
  losses : st.losses ≤ 65535

theorem RetainedStore.ok_iff (st : RetainedStore) : st.Ok ↔ (st.valid = true → st.Good) := by
  refine imp_congr_right fun _ => ⟨?_, ?_⟩
  · rintro ⟨table, snapshot, pending, drives, lost, estimated, losses⟩
    exact ⟨table, snapshot, pending, drives, lost, estimated, losses⟩
  · rintro ⟨table, snapshot, pending, drives, lost, estimated, losses⟩
    exact ⟨table, snapshot, pending, drives, lost, estimated, losses⟩

namespace RetainedStore.Ok

variable {st u : RetainedStore}

theorem of_good (h : st.Ok) (hv : u.valid = st.valid) (hg : st.Good → u.Good) : u.Ok := by
  rw [RetainedStore.ok_iff] at *
  exact fun v => hg (h (hv ▸ v))

theorem of_invalid (h : st.valid = false) : st.Ok := fun v => by simp [h] at v

theorem cleared : RetainedStore.cleared.Ok :=
  (RetainedStore.ok_iff _).2 fun _ =>
    ⟨AccountTable.Ok.cleared, fun x hx => by simp [RetainedStore.cleared, Snapshot.empty] at hx, by simp [RetainedStore.cleared],
      by simp [RetainedStore.cleared], Nat.zero_le _, Nat.zero_le _, Nat.zero_le _⟩

theorem withTable (h : st.Ok) (t : AccountTable) (ht : st.table.Ok → t.Ok) : ({ st with table := t } : RetainedStore).Ok :=
  h.of_good rfl fun g => { g with table := ht g.table }

theorem addPending (h : st.Ok) (i : Increment) (room : st.pendingIncs.length ≤ 7) :
    ({ st with pendingIncs := st.pendingIncs ++ [i] } : RetainedStore).Ok :=
  h.of_good rfl fun g => { g with pending := by simp only [List.length_append, List.length_singleton]; omega }

theorem lose (h : st.Ok) : ({ st with losses := inc16 st.losses } : RetainedStore).Ok :=
  h.of_good rfl fun g => { g with losses := inc16_le _ }

theorem estimate (h : st.Ok) : ({ st with occEstimated := inc16 st.occEstimated } : RetainedStore).Ok :=
  h.of_good rfl fun g => { g with occEstimated := inc16_le _ }

theorem mountDrive (h : st.Ok) (n : Nat) (f : DriveRecord → DriveRecord) :
    ({ st with drives := st.drives.modify n f } : RetainedStore).Ok :=
  h.of_good rfl fun g => { g with drives := (List.length_modify ..).trans g.drives }

theorem copySlot (h : st.Ok) : st.copySlot.Ok := by
  unfold RetainedStore.copySlot
  split
  · exact h
  next x hx =>
    refine h.of_good rfl fun g => { g with snapshot := fun y hy => ?_ }
    rcases List.mem_append.1 hy with hy | hy
    · exact g.snapshot y (List.mem_of_mem_take hy)
    · exact g.table.all y (List.mem_singleton.1 hy ▸ List.mem_of_getElem? hx)

theorem tickClose (h : st.Ok) : st.tickClose.Ok := by
  unfold RetainedStore.tickClose
  split
  · split
    · exact h.copySlot
    · exact h
  · exact h

theorem completed (h : st.Ok) : st.completed.Ok :=
  h.of_good rfl fun g => { g with table := AccountTable.Ok.cleared, pending := Nat.zero_le _ }

theorem release (h : st.Ok) :
    ({ st with snapshot := Snapshot.empty, snapHeld := false, snapInvalid := false } : RetainedStore).Ok :=
  h.of_good rfl fun g => { g with snapshot := by simp [Snapshot.empty] }

theorem chargeAll (h : st.table.Ok) (incs : List Increment) : (incs.foldl RetainedStore.chargeQuiet st).table.Ok := by
  induction incs generalizing st with
  | nil => exact h
  | cons i is ih => exact ih (st := st.chargeQuiet i) (h.charge i)

/-- A start that keeps the store keeps it good (R175). -/
theorem kept (h : st.Ok) : st.kept.Ok := by
  unfold RetainedStore.kept
  dsimp only
  have charged (g : st.Good) : (st.pendingIncs.foldl RetainedStore.chargeQuiet st).table.Ok := chargeAll g.table _
  split
  · refine h.of_good (by split <;> rfl) fun g => ?_
    split
    · exact { g with table := charged g, snapshot := by simp [Snapshot.empty], pending := Nat.zero_le _, occLost := satAdd_le _ _ _ }
    · exact { g with table := charged g, snapshot := by simp [Snapshot.empty], pending := Nat.zero_le _, occLost := satAdd_le _ _ _ }
  · split
    · exact h.of_good rfl fun g => { g with occLost := satAdd_le _ _ _ }
    · exact h.of_good rfl fun g => { g with occLost := satAdd_le _ _ _ }

theorem leaveReset (h : st.Ok) (c : ResetCause) : (st.leaveReset c).Ok := by
  unfold RetainedStore.leaveReset
  split
  · exact cleared
  · exact h.kept

end RetainedStore.Ok

/-! ## Accounts.lean -/

namespace Station.Keeps

variable {s x : Station} (h : s.Keeps x)
include h

theorem chargeLive (i : Increment) : s.Keeps (x.chargeLive i) := by
  have charged := h.withStore { x.store with table := (x.store.table.charge i).1 } fun ok => ok.withTable _ fun t => t.charge i
  unfold Station.chargeLive
  dsimp only
  split
  · exact (charged.withStore { x.store with table := (x.store.table.charge i).1, accountsFull := true } id).callFor _
  · exact charged

theorem increment (i : Increment) : s.Keeps (x.increment i) := by
  unfold Station.increment
  split
  · split
    next room => exact h.withStore _ fun ok => ok.addPending i room
    · exact h.withStore _ fun ok => ok.lose
  · exact h.chargeLive i

theorem driveUpdate (d : Done) : s.Keeps (x.driveUpdate d) := by
  have mounted := h.withStore { x.store with drives := x.store.drives.modify d.driveNo (DriveRecord.mounted d.kind) } fun ok =>
    ok.mountDrive _ _
  unfold Station.driveUpdate
  dsimp only
  repeat' split
  · exact mounted.causeGone _
  · exact mounted
  · exact h

theorem closeOccupancy (drive : Nat) (estimated : Bool) : s.Keeps (x.closeOccupancy drive estimated) := by
  unfold Station.closeOccupancy
  split
  · exact h
  next o _ =>
    dsimp only
    split
    · refine (increment (h.withStore { x.store with occEstimated := inc16 x.store.occEstimated } fun ok => ok.estimate) _).withStore _ ?_
      exact id
    · refine (h.increment _).withStore _ ?_
      exact id

theorem openOccupancy (drive account : Nat) : s.Keeps (x.openOccupancy drive account) := h.withStore _ id

theorem cleanTest (d : Done) : s.Keeps (x.cleanTest d) := by
  unfold Station.cleanTest
  split
  · exact h.callFor _
  · exact h

theorem accountDone (own : Bool) (d : Done) : s.Keeps (x.accountDone own d) := by
  unfold Station.accountDone
  dsimp only
  repeat' split
  · exact ((((h.driveUpdate d).closeOccupancy _ _).increment _).openOccupancy _ _).cleanTest d
  · exact (h.driveUpdate d).closeOccupancy _ _
  · exact h.closeOccupancy _ _
  · exact h

theorem postTally (w : Which) (t : TallyStatus) (p f : Nat) (r : List Byte) : s.Keeps (x.postTally w t p f r) :=
  h.post _ _ _ (by simp [Msg.code])

theorem answerTally (w : Which) (first count : Nat) : s.Keeps (x.answerTally w first count) := by
  unfold Station.answerTally
  dsimp only
  split
  · exact h.postTally _ _ _ _ _
  · exact h.postTally _ _ _ _ _

theorem periodClose (p : Nat) : s.Keeps (x.periodClose p) := by
  unfold Station.periodClose
  split
  · exact h.postTally _ _ _ _ _
  · exact h.withStore _ id

theorem tallyTaken (p : Nat) : s.Keeps (x.tallyTaken p) := by
  unfold Station.tallyTaken
  split
  · exact postTally (h.withStore { x.store with snapshot := Snapshot.empty, snapHeld := false, snapInvalid := false } fun ok =>
      ok.release) _ _ _ _ _
  · exact h

theorem completeClose : s.Keeps x.completeClose := by
  have emptied := causeGone (h.withStore x.store.copySlot.completed fun ok => ok.copySlot.completed) .accountsFull
  have charged := foldl _ (fun _ i => (Keeps.refl _).chargeLive i) x.store.copySlot.pendingIncs emptied
  refine (causeGone (charged.withStore _ ?_) .storeLost).postTally _ _ _ _ _
  exact id

end Station.Keeps
end Sys2Proof.Machine
end

section
/-! The five invariants that every step keeps: the LIU (R10 to R22), the request table (R77), a TRAVEL under its grant or a STOP
(R110, R128), BEACON (R172), the retained store (R173 to R190). One lemma for each operation of Station Control and each command. -/

namespace Sys2Proof.Machine

/-! ## A station with a block at its reset value, and a call recorded -/

namespace Station.Sound

variable {s x y : Station}

theorem keeps (h : s.Sound x) (k : x.Keeps y) : s.Sound y := h.trans k.sound

theorem withReq (h : s.Sound x) (r : RequestUnit) (hr : x.req.Ok → r.Ok) : s.Sound { x with req := r } :=
  ⟨h.liu, hr ∘ h.req, h.travel, h.prm, h.store⟩

/-- A block at its reset value meets its invariant (R25, R59). -/
theorem blocksReset (c : Control) (l : Liu) (hl : s.liu.Ok → l.Ok) (a : List AccRecord) (p : Pins) (st : RetainedStore)
    (hst : s.store.Ok → st.Ok) (n : Nat) :
    s.Sound { pins := p, ctl := c, liu := l, req := RequestUnit.reset, span := SpanUnit.reset, seq := Sequencer.reset,
              prm := PromptUnit.reset, acc := a, store := st, free := n } :=
  ⟨hl, fun _ => ⟨Nat.zero_le _, List.nodup_nil⟩, fun _ => .of_halted (Sequencer.halted_of_cmd_none rfl), fun _ => rfl, hst⟩

theorem start (m : Mode) (c : ResetCause) (p : Pins) (st : RetainedStore) (hst : s.store.Ok → st.Ok) (n : Nat) :
    s.Sound (Station.start m c p st n) :=
  blocksReset _ _ (fun _ => Liu.reset_ok) _ _ _ hst _

theorem enterOffline (h : s.Sound x) (r : OfflineReason) : s.Sound (x.enterOffline r) :=
  h.trans (blocksReset _ _ Liu.Ok.emptied _ _ _ id _)

theorem seed (h : s.Sound x) : s.Sound x.seed :=
  h.keeps ((Keeps.refl x).withLiu _ fun ok =>
    ok.of_same ok.rx rfl rfl Iff.rfl (backoffSeed_ne_zero _ _))

/-- A call whose tag is new is recorded where a place is free (R79). -/
theorem record (h : s.Sound x) {c : Call} (hnew : c.tag ∉ x.req.tags) (hroom : s.req.Ok → x.req.table.length ≤ 15) :
    s.Sound (x.record c) := by
  have recorded : s.Sound { x with req := { x.req with table := x.req.table ++ [Entry.new c x.now] } } := by
    refine ⟨h.liu, fun ok => ⟨?_, ?_⟩, h.travel, h.prm, h.store⟩
    · have := hroom ok
      simp only [List.length_append, List.length_singleton]
      omega
    · rw [List.map_append]
      exact (h.req ok).2.append (List.nodup_singleton _) (List.disjoint_singleton.2 hnew)
  exact recorded.keeps ((Keeps.refl _).offerOn _)

end Station.Sound

/-! ## The Request Unit: calls (R79, R80) -/

theorem RequestUnit.tags_length (r : RequestUnit) : r.tags.length = r.table.length := by simp [RequestUnit.tags]

theorem RequestUnit.not_mem_tags {r : RequestUnit} {t : Tag} (h : ¬ (r.find t).isSome = true) : t ∉ r.tags := by
  intro ht
  obtain ⟨e, he, rfl⟩ := List.mem_map.1 ht
  refine h (List.find?_isSome.2 ⟨e, he, ?_⟩)
  simp

theorem Station.removeEntry_not_mem (s : Station) (t : Tag) : t ∉ (s.removeEntry t).req.tags := by
  simp [Station.removeEntry, RequestUnit.tags]

/-- The removal of an entry frees its place. -/
theorem Station.removeEntry_length {s : Station} {e : Entry} (he : e ∈ s.req.table) :
    (s.removeEntry e.call.tag).req.table.length < s.req.table.length := by
  have sub := ((Keeps.refl s).removeEntry e.call.tag).tags
  have hmem : e.call.tag ∈ s.req.tags := List.mem_map_of_mem he
  rw [← RequestUnit.tags_length, ← RequestUnit.tags_length]
  refine lt_of_le_of_ne sub.length_le fun hlen => s.removeEntry_not_mem e.call.tag ?_
  rwa [sub.eq_of_length hlen]

theorem Station.callHeard_sound (s : Station) (c : Call) : s.Sound (s.callHeard c) := by
  unfold Station.callHeard
  split
  · exact .refl s
  next hnew =>
    have new := RequestUnit.not_mem_tags hnew
    split
    next hroom => exact (Sound.refl s).record new fun _ => hroom
    · split
      next e he =>
        have removed := (Keeps.refl s).removeEntry e.call.tag
        refine removed.sound.record (fun hc => new (removed.tags.mem hc)) fun ok => ?_
        have := s.removeEntry_length (List.mem_of_find?_eq_some he)
        have := ok.1
        omega
      · exact (Keeps.refl s).countCallDropped.sound

/-! ## The end of an event, and a frame handed out -/

/-- A TRAVEL is issued under a grant alone (R110, R131). -/
theorem Station.chooseNext_sound (s : Station) : s.Sound s.chooseNext := by
  have kept := Keeps.refl s
  unfold Station.chooseNext
  split
  · exact .refl s
  · split
    · split
      · exact (kept.faultStep _).sound
      · split
        · exact kept.issueCheck.sound
        · exact kept.sound
    · split
      next hr _ => exact ⟨id, id, fun _ _ => .inl hr, id, id⟩
      · dsimp only
        split
        · exact kept.serveHeld.sound
        · exact kept.serveHeld.nextStep.sound
    · exact .refl s

namespace Station.Sound

variable {s x y : Station}

theorem finish (h : s.Sound x) : s.Sound x.finish :=
  (h.trans x.chooseNext_sound).keeps (Keeps.refl _).doRescan.repostDropped

theorem dequeue (h : s.Sound x) : s.Sound x.dequeue := h.keeps ((Keeps.refl x).withLiu _ Liu.Ok.dequeue)

/-- A frame that its blocks take soundly is handed out soundly (R11). -/
theorem hear {act : Heard → Msg → Station → Station} (hact : ∀ (z : Station) (k : Heard) (m : Msg), z.Sound (act k m z)) (s : Station)
    (code : Byte) (every : Bool) : s.Sound (s.hear code every act) := by
  have echoed (m : Msg) : s.Sound (s.reportEcho m) := by
    have kept := Keeps.refl s
    cases m with
    | offer t c i => exact (kept.offerEcho t).sound
    | take t c i l =>
      unfold Station.reportEcho
      dsimp only
      split
      · exact kept.sound
      · exact (kept.takeEcho t).sound
    | done d => exact (kept.doneEcho d).sound
    | span i k lo hi f r => exact (kept.spanEcho k lo hi f).sound
    | prompt p => exact (kept.promptEcho _ _).sound
    | clear n r => exact (kept.clearEcho n r).sound
    | _ => exact .refl s
  have taken (e : RxEntry) : s.Sound (s.takeFrame every act e) := by
    unfold Station.takeFrame
    repeat' split
    · exact hact s _ _
    · exact echoed _
    · exact .refl s
    · exact echoed _
    · exact .refl s
    · exact .refl s
  unfold Station.hear
  split
  · exact .refl s
  · split
    · exact (taken _).finish.dequeue
    · exact .refl s

/-- An event that keeps the station and ends. -/
theorem event (h : s.Keeps x) : s.Sound x.finish := h.sound.finish

/-- An event that comes about under a condition alone. -/
theorem guarded {c : Prop} [Decidable c] (h : s.Sound x) : s.Sound (if c then x else s) := by
  split
  · exact h
  · exact .refl s

end Station.Sound

namespace Station.Keeps

variable {s x : Station}

/-- Supplies, Station Control and the free counter are in no invariant. -/
theorem aside (h : s.Keeps x) (p : Pins) (c : Control) (n : Nat) : s.Keeps { x with pins := p, ctl := c, free := n } :=
  h.trans ⟨id, .refl _, id, id, id, id⟩

end Station.Keeps

/-! ## Supply, reset, configuration, ordering (R40 to R57, R173) -/

namespace Station

variable (s : Station)

theorem hold_sound (c : ResetCause) : s.Sound (s.hold c) := .start _ _ _ _ id _

theorem loseStore_sound : s.Sound s.loseStore := ⟨id, id, id, id, fun _ => .of_invalid rfl⟩

theorem onPowerOn_sound : s.Sound s.onPowerOn := by
  unfold onPowerOn
  split
  · exact .refl s
  · exact .start _ _ _ _ id _

theorem onResetPin_sound : s.Sound s.onResetPin := .guarded (s.hold_sound _)

theorem onLeaveReset_sound : s.Sound s.onLeaveReset := .guarded (.start _ _ _ _ (fun ok => ok.leaveReset _) _)

theorem onVddLoss_sound (v : Bool) : s.Sound (s.onVddLoss v) := by
  have held : s.Sound ({ s with pins := { s.pins with vdd := false, vbak := v } }.hold s.ctl.cause) := .start _ _ _ _ id _
  unfold onVddLoss
  dsimp only
  repeat' split
  · exact held
  · exact held.trans (loseStore_sound _)
  · exact .refl s

theorem onVbakLoss_sound : s.Sound s.onVbakLoss := by
  have failed := ((Keeps.refl s).aside { s.pins with vbak := false } s.ctl s.free).sound
  unfold onVbakLoss
  dsimp only
  repeat' split
  · exact failed
  · exact failed.trans (loseStore_sound _)
  · exact .refl s

theorem configure_sound (c : ConfigValues) : s.Sound (s.configure c) := by
  have started : s.Keeps { s with ctl := { s.ctl with cfg := some c },
                                  liu := { s.liu with running := true, divisor := c.divisor, lineBusy := true } } :=
    ((Keeps.refl s).aside s.pins { s.ctl with cfg := some c } s.free).withLiu _ fun ok =>
      ok.of_same ok.rx rfl rfl Iff.rfl ok.generator
  unfold configure
  dsimp only
  split
  · exact (started.aside _ _ _).sound
  · exact (started.sound.enterOffline _).seed

theorem onConfigRead_sound (b : List Byte) : s.Sound (s.onConfigRead b) := by
  unfold onConfigRead
  repeat' split
  · exact s.configure_sound _
  · exact (Sound.refl s).enterOffline _
  · exact .refl s

theorem takeIndex_sound (i : Nat) : s.Sound (s.takeIndex i) :=
  (((Keeps.refl s).aside s.pins _ s.free).sound.seed).keeps ((Keeps.refl _).issue _ _ rfl)

theorem chainLevel_keeps (a : Bool) : s.Keeps (s.chainLevel a) := (Keeps.refl s).aside _ s.ctl s.free

theorem orderFailed_sound : s.Sound s.orderFailed := ((Sound.refl s).enterOffline _).seed

theorem onChainInActive_sound : s.Sound s.onChainInActive := by
  unfold onChainInActive
  dsimp only
  split
  · exact (s.chainLevel_keeps true).sound.trans (takeIndex_sound _ _)
  · exact (s.chainLevel_keeps true).sound

theorem onChainInRise_sound : s.Sound s.onChainInRise := by
  unfold onChainInRise
  dsimp only
  repeat' split
  · exact .refl s
  · exact ((s.chainLevel_keeps true).aside _ _ _).sound
  · exact (s.chainLevel_keeps true).sound

theorem onChainInQuiet_sound : s.Sound s.onChainInQuiet := by
  unfold onChainInQuiet
  repeat' split
  · exact ((Keeps.refl s).aside _ _ _).sound
  · exact .refl s
  · exact s.takeIndex_sound _
  · exact s.orderFailed_sound
  · exact .refl s

theorem onOrderingTimeout_sound : s.Sound s.onOrderingTimeout := .guarded s.orderFailed_sound

theorem onChainOutBurst_sound : s.Sound s.onChainOutBurst := .guarded ((Keeps.refl s).aside _ _ _).sound

theorem sampleDoor_keeps : s.Keeps s.sampleDoor := by
  unfold sampleDoor
  split
  · exact (Keeps.refl s).setLatch
  · exact (Keeps.refl s).withSeq _ rfl

theorem storeLostCall_keeps : s.Keeps s.storeLostCall := by
  unfold storeLostCall
  split
  · refine ((Keeps.refl s).withStore _ ?_).callFor _
    exact id
  · exact .refl s

theorem enterReady_keeps : s.Keeps s.enterReady := by
  have ready := (Keeps.refl s).aside s.pins { s.ctl with mode := .ready, learningTimer := none } s.free
  exact ((ready.trans (sampleDoor_keeps _)).trans (storeLostCall_keeps _)).rescanPoint

theorem onLearningPeriodEnd_sound : s.Sound s.onLearningPeriodEnd := .guarded (.event s.enterReady_keeps)

/-! ## The line (R6 to R23) -/

theorem onLine_sound {f : Liu → Liu} (hf : ∀ l : Liu, l.Ok → (f l).Ok) : s.Sound (s.onLine f) :=
  .guarded ((Keeps.refl s).withLiu _ (hf _)).sound

theorem onBreakSentEnd_sound : s.Sound s.onBreakSentEnd := by
  unfold onBreakSentEnd
  split
  next hb => exact .event ((Keeps.refl s).settle _ _ fun ok => ok.breakEnd (by simp [hb.2]))
  · exact .refl s

/-! ## The time base (R41) -/

theorem tickTimers_keeps : s.Keeps s.tickTimers := by
  have travelling : s.seq.tickTimers.travelling = s.seq.travelling := by
    unfold Sequencer.travelling Sequencer.tickTimers
    cases s.seq.cmd with
    | none => rfl
    | some f =>
      obtain ⟨c, p, n, k, o⟩ := f
      cases c <;> rfl
  have stopped : (s.seq.tickTimers.cmd.any fun f => f.causes.isSome) = s.seq.cmd.any fun f => f.causes.isSome := by
    simp [Sequencer.tickTimers, InFlight.tick, Option.any_map]
  refine ⟨id, .refl _, fun ht hc => ?_, fun hh hc => ?_, id, RetainedStore.Ok.tickClose⟩
  · exact (ht (travelling ▸ hc)).imp id fun h => stopped.trans h
  · exact stopped.trans (hh (travelling ▸ hc))

theorem secondsAdvance_sound : s.Sound s.secondsAdvance :=
  .event ((s.tickTimers_keeps.aside _ _ _).advanceDrops.retryRaises.raiseWanted _)

theorem onTick_sound : s.Sound s.onTick := by
  unfold onTick
  repeat' split
  · exact s.secondsAdvance_sound
  · exact .event (s.tickTimers_keeps.aside _ _ _)
  · exact .refl s

theorem onSecondsAdvance_sound : s.Sound s.onSecondsAdvance := .guarded s.secondsAdvance_sound

/-! ## The carriage (R126 to R151) -/

/-- A completion that its rows take soundly, with no command in flight any more (R126). -/
theorem onCompletion_sound {f : Code → InFlight → Station → Station}
    (hf : ∀ (c : Code) (i : InFlight) (z : Station), z.seq.cmd = none → z.Keeps (f c i z)) (code : Nat) (w : Word) :
    s.Sound (s.onCompletion code w f) := by
  unfold onCompletion
  split
  · exact .refl s
  next c i z hz =>
    have ended : s.Keeps z ∧ z.seq.cmd = none := by
      unfold completes at hz
      split at hz
      · simp at hz
      · split at hz
        · simp only [Option.some.injEq, Prod.mk.injEq] at hz
          obtain ⟨-, -, rfl⟩ := hz
          exact ⟨(Keeps.refl s).withHalted _ (Sequencer.halted_of_cmd_none rfl), rfl⟩
        · simp at hz
    exact .event (ended.1.trans (hf c i z ended.2))

theorem onTravelCompletion_sound (w : Word) : s.Sound (s.onTravelCompletion w) :=
  s.onCompletion_sound (fun c i z hz => by
    split
    · exact (Keeps.refl z).travelDone i _ c (Sequencer.halted_of_cmd_none hz)
    · exact .refl z) _ _

theorem onPickCompletion_sound (w : Word) : s.Sound (s.onPickCompletion w) :=
  s.onCompletion_sound (fun c i z _ => by
    split
    · exact (Keeps.refl z).pickEnd i _ c
    · exact .refl z) _ _

theorem onPlaceCompletion_sound (w : Word) : s.Sound (s.onPlaceCompletion w) :=
  s.onCompletion_sound (fun c i z _ => by
    split
    · exact (Keeps.refl z).placeEnd i _ c
    · exact .refl z) _ _

theorem onStopCompletion_sound (w : Word) : s.Sound (s.onStopCompletion w) := .guarded (.event ((Keeps.refl s).stopEnd w))

theorem onCommandTimeout_sound : s.Sound s.onCommandTimeout := by
  unfold onCommandTimeout
  split
  · exact .event ((Keeps.refl s).openFault _ _)
  · exact .event ((Keeps.refl s).openFault _ _)
  · exact .refl s

theorem onDoneRepostTimer_sound : s.Sound s.onDoneRepostTimer := .guarded (.event (Keeps.refl s).repostDone)

theorem onDoorOpen_sound : s.Sound s.onDoorOpen := by
  have opened := (Keeps.refl s).aside { s.pins with door := true } s.ctl s.free
  unfold onDoorOpen
  dsimp only
  repeat' split
  · exact .refl s
  · exact .event opened.setLatch
  · exact opened.sound

theorem onDoorRaiseTimer_sound : s.Sound s.onDoorRaiseTimer := .guarded (.event (Keeps.refl s).doorTimerEnd)

/-! ## The Request Unit (R79 to R101) -/

theorem takeCallFrame_sound (k : Heard) (m : Msg) : s.Sound (s.takeCallFrame k m) := by
  unfold takeCallFrame
  split
  · exact s.callHeard_sound _
  · exact .refl s

theorem takeOfferFrame_keeps (k : Heard) (m : Msg) : s.Keeps (s.takeOfferFrame k m) := by
  unfold takeOfferFrame
  split
  · exact (Keeps.refl s).offerHeard _ _ _
  · exact .refl s

theorem takeTakeFrame_keeps (k : Heard) (m : Msg) : s.Keeps (s.takeTakeFrame k m) := by
  unfold takeTakeFrame
  repeat' split
  · exact .refl s
  · exact (Keeps.refl s).takeEcho _
  · exact (Keeps.refl s).takeHeard _ _
  · exact .refl s

theorem takeDoneFrame_keeps (k : Heard) (m : Msg) : s.Keeps (s.takeDoneFrame k m) := by
  unfold takeDoneFrame
  dsimp only
  repeat' split
  · exact (((Keeps.refl s).doneEcho _).ownDone _).accountDone _ _
  · exact ((Keeps.refl s).peerDone _).accountDone _ _
  · exact (((Keeps.refl s).doneEcho _).ownDone _).driveUpdate _
  · exact ((Keeps.refl s).peerDone _).driveUpdate _
  · exact .refl s

theorem onOfferWindowExpiry_sound (t : Tag) : s.Sound (s.onOfferWindowExpiry t) := .guarded (.event ((Keeps.refl s).windowExpired t))

theorem onTakeWaitExpiry_sound (t : Tag) : s.Sound (s.onTakeWaitExpiry t) := .guarded (.event ((Keeps.refl s).takeWaitExpired t))

theorem onTakeHoldEnd_sound (t : Tag) : s.Sound (s.onTakeHoldEnd t) := .guarded (.event ((Keeps.refl s).holdEnded t))

theorem onRequestAgeing_sound : s.Sound s.onRequestAgeing := .guarded (.event (Keeps.refl s).ageOut)

theorem onRequestWaitingDue_sound : s.Sound s.onRequestWaitingDue := .guarded (.event (Keeps.refl s).raiseAllWaiting)

/-! ## The Span Unit (R103 to R123) -/

theorem peerSpanFrame_sound (a i : Nat) (k : SpanKind) (lo hi : Nat) (f r : Bool) : s.Sound (s.peerSpanFrame a i k lo hi f r) := by
  have entered : s.Keeps (if i = s.k then s else s.peerSpan a i k lo hi r) := by
    split
    · exact .refl s
    · exact (Keeps.refl s).peerSpan a i k lo hi r
  unfold peerSpanFrame
  dsimp only
  repeat' split
  · exact (Sound.refl s).enterOffline _
  · exact (Keeps.reopen (.refl s) a).sound
  · exact ((Keeps.peerSpan (.refl s) a i k lo hi r).reopen a).sound
  · exact .refl s
  · exact (Keeps.peerSpan (.refl s) a i k lo hi r).sound

theorem takeSpanFrame_sound (k : Heard) (m : Msg) : s.Sound (s.takeSpanFrame k m) := by
  unfold takeSpanFrame
  repeat' split
  · exact ((Keeps.refl s).spanEcho _ _ _ _).sound
  · exact s.peerSpanFrame_sound _ _ _ _ _ _ _
  · exact .refl s

theorem takeNudgeFrame_keeps (k : Heard) (m : Msg) : s.Keeps (s.takeNudgeFrame k m) := by
  unfold takeNudgeFrame
  repeat' split
  · exact (Keeps.refl s).takeNudge _ _ _
  · exact .refl s
  · exact .refl s

theorem onStaleMark_sound : s.Sound s.onStaleMark := .guarded (.event ((Keeps.refl s).withSpan _ rfl))

theorem onRestatementTimer_sound : s.Sound s.onRestatementTimer := .guarded (.event (Keeps.refl s).postOwn)

theorem onWaitingTimer_sound : s.Sound s.onWaitingTimer := .guarded (.event (Keeps.refl s).waitExpired)

theorem onStationSilentDue_sound : s.Sound s.onStationSilentDue :=
  .guarded (.event (.foldl _ (fun z a => (Keeps.refl z).raiseSilent a) _ (.refl s)))

/-! ## The Prompt Unit (R161 to R171) -/

theorem peerPrompt_keeps (p : PromptMsg) : s.Keeps (s.peerPrompt p) := by
  unfold peerPrompt
  split
  · exact (Keeps.refl s).noticeWaiting _
  · exact (Keeps.refl s).withSpan _ rfl
  · exact .refl s

theorem takePromptFrame_keeps (k : Heard) (m : Msg) : s.Keeps (s.takePromptFrame k m) := by
  unfold takePromptFrame
  dsimp only
  repeat' split
  · exact ((Keeps.refl s).promptEcho _ _).doorHeard _ _ _
  · exact (s.peerPrompt_keeps _).doorHeard _ _ _
  · exact (Keeps.refl s).promptEcho _ _
  · exact s.peerPrompt_keeps _
  · exact .refl s

theorem takeClearFrame_keeps (k : Heard) (m : Msg) : s.Keeps (s.takeClearFrame k m) := by
  unfold takeClearFrame
  repeat' split
  · exact (Keeps.refl s).clearEcho _ _
  · exact .refl s
  · exact .refl s

theorem silentAnswered_keeps (n : Nat) (a : Answer) : s.Keeps (s.silentAnswered n a) := by
  unfold silentAnswered
  dsimp only
  repeat' split
  · exact .refl s
  · refine (((Keeps.refl s).withSpan _ ?_).reopen _).rescanPoint
    rfl
  · exact (Keeps.refl s).withSpan _ rfl

theorem faultAnswer_keeps (n : Nat) (a : Answer) : s.Keeps (s.faultAnswer n a) :=
  (Keeps.refl s).withSeq _ rfl

theorem toldAnswer_keeps (e : PromptEntry) (a : Answer) : s.Keeps (s.toldAnswer e a) := by
  have kept := Keeps.refl s
  unfold toldAnswer
  split
  · exact kept.boundAnswer _ _ _
  · exact kept.boundAnswer _ _ _
  · exact kept.boundAnswer _ _ _
  · exact kept.boundAnswer _ _ _
  · exact kept.boundAnswer _ _ _
  · exact s.faultAnswer_keeps _ _
  · exact kept
  · exact kept.handAnswer _
  · exact kept.railAnswered
  · exact s.silentAnswered_keeps _ _
  · exact kept.forgetWaiting _
  · exact kept.updateAcc _ _
  · exact kept.updateAcc _ _
  · exact kept.updateAcc _ _

theorem promptReply_keeps (n : Nat) (a : Answer) : s.Keeps (s.promptReply n a).1 := by
  unfold promptReply
  repeat' split
  · exact (Keeps.refl s).countLateReply
  · exact ((Keeps.refl s).leavePrompt _ _).trans (toldAnswer_keeps _ _ _)
  · exact (Keeps.refl s).countLateReply

theorem takeReplyFrame_keeps (k : Heard) (m : Msg) : s.Keeps (s.takeReplyFrame k m) := by
  unfold takeReplyFrame
  split
  next st n a =>
    have released (x : Station) (b : Bool) (hx : s.Keeps x) : s.Keeps (if b then x.doorRelease else x) := by
      split
      · exact hx.doorRelease
      · exact hx
    refine released _ _ ?_
    split
    · exact s.promptReply_keeps n a
    · exact .refl s
  · exact .refl s

theorem onPromptExpiry_sound : s.Sound s.onPromptExpiry := by
  unfold onPromptExpiry
  split
  · exact .refl s
  · exact .event (.foldl _ (fun z e => (Keeps.refl z).expirePrompt e) _ (.refl s))

theorem onPromptEscalation_sound : s.Sound s.onPromptEscalation :=
  .guarded (.event (.foldl _ (fun z e => (Keeps.refl z).escalatePrompt e) _ (.refl s)))

theorem onPromptResend_sound : s.Sound s.onPromptResend :=
  .guarded (.event (.foldl _ (fun z (e : PromptEntry) => (Keeps.refl z).statePrompt e.num) _ (.refl s)))

/-! ## The Accounting Unit and Station Control (R60, R61, R183 to R188) -/

theorem takeTallyAskFrame_keeps (k : Heard) (m : Msg) : s.Keeps (s.takeTallyAskFrame k m) := by
  unfold takeTallyAskFrame
  repeat' split
  · exact (Keeps.refl s).answerTally _ _ _
  · exact .refl s
  · exact .refl s

theorem takePeriodCloseFrame_keeps (k : Heard) (m : Msg) : s.Keeps (s.takePeriodCloseFrame k m) := by
  unfold takePeriodCloseFrame
  repeat' split
  · exact (Keeps.refl s).periodClose _
  · exact .refl s
  · exact .refl s

theorem takeTallyTakenFrame_keeps (k : Heard) (m : Msg) : s.Keeps (s.takeTallyTakenFrame k m) := by
  unfold takeTallyTakenFrame
  repeat' split
  · exact (Keeps.refl s).tallyTaken _
  · exact .refl s
  · exact .refl s

theorem onCloseComplete_sound : s.Sound s.onCloseComplete := .guarded (.event (Keeps.refl s).completeClose)

theorem takeStatusAskFrame_keeps (k : Heard) (m : Msg) : s.Keeps (s.takeStatusAskFrame k m) := by
  unfold takeStatusAskFrame
  repeat' split
  · exact (Keeps.refl s).post _ _ _ (by simp [Msg.code])
  · exact .refl s
  · exact .refl s

theorem takeRestartFrame_sound (k : Heard) (m : Msg) : s.Sound (s.takeRestartFrame k m) := by
  unfold takeRestartFrame
  repeat' split
  · exact s.hold_sound _
  · exact .refl s
  · exact .refl s

end Station

/-! ## Every command -/

theorem sound_of_act {s t : State} {x : Station} (hx : s.station.Sound x)
    (h : (.next { s with station := x } : Host.Outcome State Fault Refusal) = .next t) : s.station.Sound t.station := by
  obtain rfl := Host.Outcome.next.inj h
  exact hx

theorem sound_of_hear {act : Heard → Msg → Station → Station} (hact : ∀ (z : Station) (k : Heard) (m : Msg), z.Sound (act k m z))
    {s t : State} {code : Byte} {every : Bool} (h : s.act (fun x => x.hear code every act) = .next t) :
    s.station.Sound t.station :=
  sound_of_act (Station.Sound.hear hact s.station code every) h

theorem sound_of_hear_keeps {act : Heard → Msg → Station → Station}
    (hact : ∀ (z : Station) (k : Heard) (m : Msg), z.Keeps (act k m z)) {s t : State} {code : Byte} {every : Bool}
    (h : s.act (fun x => x.hear code every act) = .next t) : s.station.Sound t.station :=
  sound_of_hear (fun z k m => (hact z k m).sound) h

/-- Every command keeps the five invariants. -/
theorem exec_sound (c : Instr) (s t : State) (h : exec c s = .next t) : s.station.Sound t.station := by
  cases c with
  | powerOn => exact sound_of_act (Station.onPowerOn_sound _) h
  | resetPin => exact sound_of_act (Station.onResetPin_sound _) h
  | leaveReset => exact sound_of_act (Station.onLeaveReset_sound _) h
  | vddLoss v => exact sound_of_act (Station.onVddLoss_sound _ _) h
  | vbakLoss => exact sound_of_act (Station.onVbakLoss_sound _) h
  | configReadComplete b => exact sound_of_act (Station.onConfigRead_sound _ _) h
  | tick => exact sound_of_act (Station.onTick_sound _) h
  | secondsAdvance => exact sound_of_act (Station.onSecondsAdvance_sound _) h
  | lineBusy levels => exact sound_of_act (Station.onLine_sound _ fun _ ok => ok.lineBusyAt levels) h
  | gapEnd => exact sound_of_act (Station.onLine_sound _ fun _ ok => ok.gapEnd) h
  | syncPairFound chars => exact sound_of_act (Station.onLine_sound _ fun _ ok => ok.hunt chars) h
  | malformedLen len => exact sound_of_act (Station.onLine_sound _ fun _ ok => ok.malformedLen len) h
  | framingError levels => exact sound_of_act (Station.onLine_sound _ fun _ ok => ok.framingErrorAt levels) h
  | breakHeard levels => exact sound_of_act (Station.onLine_sound _ fun _ ok => ok.breakAt levels) h
  | frameReceived chars => exact sound_of_act (Station.onLine_sound _ fun _ ok => ok.frameReceived chars) h
  | unknownKind => exact sound_of_act (Station.onLine_sound _ fun _ ok => ok.unknownKind) h
  | slotWaitEnd => exact sound_of_act (Station.onLine_sound _ fun _ ok => ok.startSending) h
  | collision => exact sound_of_act (Station.onLine_sound _ fun _ ok => ok.collide) h
  | breakSentEnd => exact sound_of_act (Station.onBreakSentEnd_sound _) h
  | heardBack => exact sound_of_act (Station.onLine_sound _ fun _ ok => ok.heardBack) h
  | chainInActive => exact sound_of_act (Station.onChainInActive_sound _) h
  | chainInRise => exact sound_of_act (Station.onChainInRise_sound _) h
  | chainInFall => exact sound_of_act (Station.chainLevel_keeps _ _).sound h
  | chainInQuiet => exact sound_of_act (Station.onChainInQuiet_sound _) h
  | orderingTimeout => exact sound_of_act (Station.onOrderingTimeout_sound _) h
  | chainOutBurst => exact sound_of_act (Station.onChainOutBurst_sound _) h
  | learningPeriodEnd => exact sound_of_act (Station.onLearningPeriodEnd_sound _) h
  | mountCall => exact sound_of_hear Station.takeCallFrame_sound h
  | demountCall => exact sound_of_hear Station.takeCallFrame_sound h
  | offer => exact sound_of_hear_keeps Station.takeOfferFrame_keeps h
  | offerWindowExpiry ciu num => exact sound_of_act (Station.onOfferWindowExpiry_sound _ _) h
  | takeWaitExpiry ciu num => exact sound_of_act (Station.onTakeWaitExpiry_sound _ _) h
  | take => exact sound_of_hear_keeps Station.takeTakeFrame_keeps h
  | takeHoldEnd ciu num => exact sound_of_act (Station.onTakeHoldEnd_sound _ _) h
  | done => exact sound_of_hear_keeps Station.takeDoneFrame_keeps h
  | requestAgeing => exact sound_of_act (Station.onRequestAgeing_sound _) h
  | requestWaitingDue => exact sound_of_act (Station.onRequestWaitingDue_sound _) h
  | span => exact sound_of_hear Station.takeSpanFrame_sound h
  | staleMark => exact sound_of_act (Station.onStaleMark_sound _) h
  | restatementTimer => exact sound_of_act (Station.onRestatementTimer_sound _) h
  | waitingTimer => exact sound_of_act (Station.onWaitingTimer_sound _) h
  | nudge => exact sound_of_hear_keeps Station.takeNudgeFrame_keeps h
  | stationSilentDue => exact sound_of_act (Station.onStationSilentDue_sound _) h
  | prompt => exact sound_of_hear_keeps Station.takePromptFrame_keeps h
  | promptClear => exact sound_of_hear_keeps Station.takeClearFrame_keeps h
  | reply => exact sound_of_hear_keeps Station.takeReplyFrame_keeps h
  | promptExpiry => exact sound_of_act (Station.onPromptExpiry_sound _) h
  | promptEscalation => exact sound_of_act (Station.onPromptEscalation_sound _) h
  | promptResend => exact sound_of_act (Station.onPromptResend_sound _) h
  | travelCompletion w => exact sound_of_act (Station.onTravelCompletion_sound _ _) h
  | pickCompletion w => exact sound_of_act (Station.onPickCompletion_sound _ _) h
  | placeCompletion w => exact sound_of_act (Station.onPlaceCompletion_sound _ _) h
  | readLabelCompletion w u w1 w2 w3 =>
    exact sound_of_act (Station.onCompletion_sound _ (fun _ i z _ => (Station.Keeps.refl z).labelEnd i _ _ _ _ _) _ _) h
  | ringCheckCompletion w p =>
    exact sound_of_act (Station.onCompletion_sound _ (fun _ i z _ => (Station.Keeps.refl z).ringEnd i _ _) _ _) h
  | reportCompletion w p l =>
    exact sound_of_act (Station.onCompletion_sound _ (fun _ i z _ => (Station.Keeps.refl z).reportEnd i _ _ _) _ _) h
  | stopCompletion w => exact sound_of_act (Station.onStopCompletion_sound _ _) h
  | commandTimeout => exact sound_of_act (Station.onCommandTimeout_sound _) h
  | doneRepostTimer => exact sound_of_act (Station.onDoneRepostTimer_sound _) h
  | doorOpen => exact sound_of_act (Station.onDoorOpen_sound _) h
  | doorClose => exact sound_of_act ((Station.Keeps.refl _).aside _ _ _).sound h
  | doorRaiseTimer => exact sound_of_act (Station.onDoorRaiseTimer_sound _) h
  | tallyAsk => exact sound_of_hear_keeps Station.takeTallyAskFrame_keeps h
  | tally => exact sound_of_hear_keeps (fun z _ _ => .refl z) h
  | periodClose => exact sound_of_hear_keeps Station.takePeriodCloseFrame_keeps h
  | closeComplete => exact sound_of_act (Station.onCloseComplete_sound _) h
  | tallyTaken => exact sound_of_hear_keeps Station.takeTallyTakenFrame_keeps h
  | statusAsk => exact sound_of_hear_keeps Station.takeStatusAskFrame_keeps h
  | status => exact sound_of_hear_keeps (fun z _ _ => .refl z) h
  | restart => exact sound_of_hear Station.takeRestartFrame_sound h

/-- Every step keeps the five invariants. -/
theorem step_sound {s t : State} (h : step s = .next t) : s.station.Sound t.station := by
  unfold step at h
  split at h
  · obtain rfl := Host.Outcome.next.inj h
    exact .refl _
  next c rest _ => exact exec_sound c { s with pending := rest } t h

/-! ## The statements -/

/-- Settles O10: each operation of the LIU keeps its capacities and order, and every command is made of such operations. -/
theorem everyStepKeepsTheLiu : Obligations.EveryStepKeepsTheLiu := fun _ _ ok h => (step_sound h).liu ok

/-- Settles O31: tags join the request table by a recorded call alone, which is new and has a place. -/
theorem everyStepKeepsTheRequestTable : Obligations.EveryStepKeepsTheRequestTable := fun _ _ ok h => (step_sound h).req ok

/-- Settles O40: TRAVEL is issued under a grant alone, and a grant ends with the TRAVEL completed or stopped. -/
theorem everyStepKeepsTravelGranted : Obligations.EveryStepKeepsTravelGranted := fun _ _ ok h => (step_sound h).travel ok

/-- Settles O55: BEACON is driven anew after every change of the list's levels. -/
theorem everyStepKeepsBeacon : Obligations.EveryStepKeepsBeacon := fun _ _ ok h => (step_sound h).prm ok

/-- Settles O59: increments, closes and starts keep the store's tables and counts in range. -/
theorem everyStepKeepsTheStore : Obligations.EveryStepKeepsTheStore := fun _ _ ok h => (step_sound h).store ok

/-- Settles O60. -/
theorem resetMeetsTheInvariants : Obligations.ResetMeetsTheInvariants :=
  ⟨Liu.reset_ok, ⟨Nat.zero_le _, List.nodup_nil⟩, .of_halted (Sequencer.halted_of_cmd_none rfl), rfl, .cleared, rfl⟩

/-- Every arm of `exec` gives its command's effect on the station, and on nothing else. -/
theorem exec_eq_next (c : Instr) (s : State) : ∃ x : Station, exec c s = .next { s with station := x } := by
  cases c <;> exact ⟨_, rfl⟩

/-- Settles O1. -/
theorem stepRunsFrontCommand : Obligations.StepRunsFrontCommand := by
  refine ⟨fun c rest s hs => ?_, fun c s => ?_⟩
  · unfold step
    rw [hs]
  · obtain ⟨x, hx⟩ := exec_eq_next c s
    exact ⟨_, hx, rfl⟩

/-- Settles O14. -/
theorem offlineEntryEmpties : Obligations.OfflineEntryEmpties := fun _ _ =>
  ⟨rfl, rfl, rfl, rfl, rfl, rfl, rfl, rfl, rfl, rfl, rfl, rfl, rfl, rfl, rfl, rfl, rfl, rfl, rfl, rfl, rfl⟩

end Sys2Proof.Machine
end

section
/-! The receiving side of the line (R2 to R11): a frame as it is sent and assembled again, characters and their levels, and the receiver's
events. A sample at space is `Liu.sampleSpace`; what a frame's characters do to the receiver is said once, for any part of the frame taken
before (`Liu.takeChars_frame`). -/

namespace Sys2Proof.Machine

/-! ## Line events -/

/-- A command's next state is said by its station. -/
theorem next_station {s : State} {x y : Station} (h : x = y) :
    (.next { s with station := x } : Host.Outcome State Fault Refusal) = .next { s with station := y } := by rw [h]

/-- An event of the line changes the running LIU alone. -/
theorem next_onLine {s : State} (hr : s.station.liu.running = true) {f : Liu → Liu} {l : Liu} (hl : f s.station.liu = l) :
    (s.act fun x => x.onLine f) = .next { s with station := { s.station with liu := l } } := by
  rw [State.act_eq, Station.onLine, if_pos hr, hl]

theorem next_onLine_same {s : State} {f : Liu → Liu} (hl : f s.station.liu = s.station.liu) :
    (s.act fun x => x.onLine f) = .next s := by
  have same : s.station.onLine f = s.station := by
    unfold Station.onLine
    rw [hl]
    split <;> rfl
  rw [State.act_eq, same]

/-! ## Characters and levels (R2) -/

theorem byteOfBits_bits (b : Byte) : byteOfBits ((List.range 8).map b.getLsbD) = b := by
  apply BitVec.eq_of_toNat_eq
  have bit (i : Nat) : (b.getLsbD i).toNat = b.toNat / 2 ^ i % 2 := Nat.toNat_testBit b.toNat i
  have lt := b.isLt
  simp only [byteOfBits, List.range, List.range.loop, List.map_cons, List.map_nil, List.foldr_cons, List.foldr_nil, bit,
    BitVec.toNat_ofNat]
  omega

theorem readChar_charLevels (b : Byte) : readChar (charLevels b) = .char b := by
  have length : ((List.range 8).map b.getLsbD).length = 8 := by simp
  unfold charLevels readChar
  dsimp only
  rw [List.drop_left' length, List.take_left' length, byteOfBits_bits]

theorem readChar_fault {data rest : List Bool} (hd : data.length = 8) (hr : rest.length = 14) :
    readChar (false :: data ++ false :: rest) = if true ∈ rest then .framingError else .lineBreak := by
  have watched : readFault (false :: rest) = if true ∈ rest then .framingError else .lineBreak := by
    unfold readFault
    rw [List.take_of_length_le (by simp [hr])]
    by_cases h : true ∈ rest <;> simp [h, hr]
  rw [← watched, List.cons_append]
  unfold readChar
  dsimp only
  rw [List.drop_left' hd]

theorem length_charLevels (b : Byte) : (charLevels b).length = 10 := by simp [charLevels]

/-! ## A frame sent is assembled (R3, R4, R7, R8) -/

theorem toNat_byteOf {n : Nat} (h : n ≤ 255) : (byteOf n).toNat = n := by
  rw [byteOf, BitVec.toNat_ofNat]
  omega

/-- CHECK high byte first loses nothing (R4). -/
theorem word_eq_of_bytes {a b : Word} (hi : (a >>> 8).truncate 8 = (b >>> 8).truncate 8) (lo : a.truncate 8 = b.truncate 8) : a = b := by
  apply BitVec.eq_of_toNat_eq
  have hi := congrArg BitVec.toNat hi
  have lo := congrArg BitVec.toNat lo
  simp only [BitVec.truncate_eq_setWidth, BitVec.toNat_setWidth, BitVec.toNat_ushiftRight, Nat.shiftRight_eq_div_pow] at hi lo
  have := a.isLt
  have := b.isLt
  omega

/-- What the receiver makes of a frame's covered bytes and two check bytes (R8). -/
theorem assemble_covered {f : Frame} (h : f.body.length ≤ 48) (check : Word) :
    assemble (f.covered ++ [(check >>> 8).truncate 8, check.truncate 8]) =
      if check = crc f.covered then .good f else .badCheck := by
  have len : (byteOf f.body.length).toNat = f.body.length := toNat_byteOf (by omega)
  have agree : [(check >>> 8).truncate 8, check.truncate 8] = [((crc f.covered) >>> 8).truncate 8, (crc f.covered).truncate 8] ↔
      check = crc f.covered := by
    refine ⟨fun hc => ?_, fun hc => by rw [hc]⟩
    simp only [List.cons.injEq, and_true] at hc
    exact word_eq_of_bytes hc.1 hc.2
  simp only [Frame.covered, List.cons_append, assemble, len, List.length_append, List.length_cons, List.length_nil, h, true_and,
    if_true, List.take_left', List.drop_left'] at agree ⊢
  simp only [agree]
  rfl

theorem assemble_chars {f : Frame} (h : f.body.length ≤ 48) : assemble f.chars = .good f := by
  rw [Frame.chars, assemble_covered h, if_pos rfl]

theorem length_covered (f : Frame) : f.covered.length = f.body.length + 4 := by simp [Frame.covered]

theorem length_chars (f : Frame) : f.chars.length = f.body.length + 6 := by simp [Frame.chars, length_covered]

theorem length_levels (f : Frame) : f.levels.length = 10 * (f.body.length + 8) := by
  have each (cs : List Byte) : (cs.flatMap charLevels).length = 10 * cs.length := by
    induction cs with
    | nil => rfl
    | cons c cs ih =>
      rw [List.flatMap_cons, List.length_append, length_charLevels, ih, List.length_cons]
      omega
  rw [Frame.levels, each]
  simp [Frame.onLine, length_chars]

/-- Settles O3. -/
theorem sentFrameAssembles : Obligations.SentFrameAssembles :=
  ⟨by decide +kernel, fun f h => ⟨assemble_chars h, rfl, length_chars f, rfl, rfl, length_levels f⟩,
    fun b => ⟨rfl, readChar_charLevels b⟩, fun _ => rfl, fun _ _ => readChar_fault⟩

/-! ## A sample at space, and characters taken (R5 to R8, R17) -/

theorem Liu.sampleSpace_idem (l : Liu) : l.sampleSpace.sampleSpace = l.sampleSpace := by
  unfold Liu.sampleSpace
  cases l.access <;> rfl

/-- The end of a frame does not ask what the receiver held. -/
theorem Liu.frameEnd_busy (l : Liu) (r : Receiver) (chars : List Byte) :
    ({ l.sampleSpace with receiver := r } : Liu).sampleSpace.frameEnd chars = l.sampleSpace.frameEnd chars := by
  have busy : ({ l.sampleSpace with receiver := r } : Liu).sampleSpace = { l.sampleSpace with receiver := r } := by
    conv => rhs; rw [← l.sampleSpace_idem]
    rfl
  rw [busy]
  rfl

theorem Liu.sampleSpace_sending (l : Liu) : l.sampleSpace.access = .sending ↔ l.access = .sending := by
  unfold Liu.sampleSpace
  cases l.access <;> simp

theorem Liu.takeChar_hunting {l : Liu} (h : l.receiver.inProgress = false) (c : Byte) :
    l.takeChar c = { l.sampleSpace with receiver := huntChar l.receiver c } := by
  unfold Liu.takeChar
  cases hr : l.receiver <;> simp_all [Receiver.inProgress]

theorem Liu.takeChar_malformed {l : Liu} (h : l.receiver = .header []) {c : Byte} (hc : 49 ≤ c.toNat) :
    l.takeChar c = l.sampleSpace.malformed := by
  simp only [Liu.takeChar, h, hc, if_true]

/-- The receiver when it has taken these characters of a frame, and not the last one (R5). -/
def Receiver.holding (got : List Byte) : Receiver := if got.length ≤ 3 then .header got else .body got

theorem Receiver.holding_inProgress (got : List Byte) : (Receiver.holding got).inProgress = true := by
  unfold Receiver.holding
  split <;> rfl

theorem Receiver.holding_header {got : List Byte} (h : got.length ≤ 3) : Receiver.holding got = .header got := if_pos h

theorem Receiver.holding_body {got : List Byte} (h : 4 ≤ got.length) : Receiver.holding got = .body got := if_neg (by omega)

/-- A frame has six characters at least (R3). -/
theorem frameEnded_of_short {got : List Byte} (h : got.length ≤ 5) : frameEnded got = false := by
  cases got with
  | nil => rfl
  | cons x xs =>
    simp only [List.length_cons] at h
    exact decide_eq_false (by omega)

/-- A character that is not the last of its frame is taken, the LEN where it is at most 48 (R7). -/
theorem Liu.takeChar_next {l : Liu} {got : List Byte} {c : Byte} (h : l.receiver = .holding got) (hlen : got = [] → c.toNat ≤ 48)
    (hmore : frameEnded (got ++ [c]) = false) : l.takeChar c = { l.sampleSpace with receiver := .holding (got ++ [c]) } := by
  unfold Liu.takeChar
  unfold Receiver.holding at h ⊢
  cases got with
  | nil =>
    have := hlen rfl
    simp only [List.length_nil, Nat.zero_le, if_true] at h
    simp only [h, show ¬ 49 ≤ c.toNat by omega, if_false, List.nil_append, List.length_singleton]
    rfl
  | cons x xs =>
    split at h
    next hl =>
      simp only [h, List.length_append, List.length_singleton]
      split <;> split <;> simp_all <;> omega
    next hl =>
      simp only [h, hmore, List.length_append, List.length_singleton, show ¬ (x :: xs).length + 1 ≤ 3 by omega, if_false]
      rfl

theorem Liu.takeChar_last {l : Liu} {got : List Byte} {c : Byte} (h : l.receiver = .body got) (hend : frameEnded (got ++ [c]) = true) :
    l.takeChar c = l.sampleSpace.frameEnd (got ++ [c]) := by
  simp only [Liu.takeChar, h, hend, if_true]

/-- The rest of a frame's characters, whatever part of it was taken before, ends the frame (R7, R8). -/
theorem Liu.takeChars_frame {len : Byte} {chars got rest : List Byte} (hlen : len.toNat ≤ 48) (hchars : len :: chars = got ++ rest)
    (hlength : chars.length = len.toNat + 5) (hrest : rest ≠ []) {l : Liu} (h : l.receiver = .holding got) :
    l.takeChars rest = l.sampleSpace.frameEnd (len :: chars) := by
  induction rest generalizing l got with
  | nil => exact absurd rfl hrest
  | cons c cs ih =>
    have hgot : frameEnded (got ++ [c]) = decide (cs = []) := by
      cases got with
      | nil =>
        obtain ⟨rfl, rfl⟩ := List.cons.inj hchars
        cases chars with
        | nil => simp at hlength
        | cons d ds => simp [frameEnded]
      | cons x xs =>
        obtain ⟨rfl, rfl⟩ := List.cons.inj hchars
        cases cs <;> simp [frameEnded] at hlength ⊢ <;> omega
    rw [Liu.takeChars, List.foldl_cons, ← Liu.takeChars]
    cases cs with
    | nil =>
      have hbody : l.receiver = .body got := by
        rw [h, Receiver.holding, if_neg]
        have := congrArg List.length hchars
        simp at this
        omega
      rw [Liu.takeChar_last hbody (by simpa using hgot), ← hchars]
      rfl
    | cons d ds =>
      have next := Liu.takeChar_next (c := c) h (fun hg => by
        subst hg
        exact (List.cons.inj hchars).1 ▸ hlen) (by simpa using hgot)
      rw [next, ih (got := got ++ [c]) (by simp [hchars]) (by simp) rfl, Liu.frameEnd_busy]


theorem Liu.hunt_eq {l : Liu} (h : l.receiver = .hunt ∨ l.receiver = .sync) (chars : List Byte) : l.hunt chars = l.takeChars chars := by
  unfold Liu.hunt
  rcases h with h | h <;> rw [h, Receiver.inProgress, if_neg (by simp)]

/-- Once in HEADER, hunting does not come back to SYNC. -/
theorem huntChar_header (got chars : List Byte) : chars.foldl huntChar (.header got) = .header got := by
  induction chars with
  | nil => rfl
  | cons c cs ih => exact ih

theorem huntChar_hunting {r : Receiver} (h : r = .hunt ∨ r = .sync) (c : Byte) :
    (huntChar r c = .hunt ∨ huntChar r c = .sync) ∨ huntChar r c = .header [] := by
  rcases h with rfl | rfl
  · unfold huntChar
    dsimp only
    split <;> simp
  · unfold huntChar
    dsimp only
    split
    · simp
    · split <;> simp

/-- A sync pair leads to HEADER (R6). -/
theorem Liu.takeChars_syncPair {front : List Byte} {l : Liu} (h : l.receiver = .hunt ∨ l.receiver = .sync)
    (hsync : front.foldl huntChar l.receiver = .sync) :
    l.takeChars (front ++ [0x69#8]) = { l.sampleSpace with receiver := .header [] } := by
  have hunting {l : Liu} (h : l.receiver = .hunt ∨ l.receiver = .sync) : l.receiver.inProgress = false := by
    rcases h with h | h <;> rw [h] <;> rfl
  induction front generalizing l with
  | nil =>
    have sync : l.receiver = .sync := hsync
    rw [List.nil_append, Liu.takeChars, List.foldl_cons, List.foldl_nil, Liu.takeChar_hunting (hunting h), sync]
    rfl
  | cons c cs ih =>
    rw [List.cons_append, Liu.takeChars, List.foldl_cons, ← Liu.takeChars, Liu.takeChar_hunting (hunting h)]
    rcases huntChar_hunting h c with hc | hc
    · rw [ih hc hsync]
      conv => rhs; rw [← l.sampleSpace_idem]
      rfl
    · rw [List.foldl_cons, hc, huntChar_header] at hsync
      cases hsync

/-! ## The events of the receiver -/

theorem Liu.lineBusyAt_of_no_char {l : Liu} {levels : List Bool} (h : ∀ c, readChar levels ≠ .char c) :
    l.lineBusyAt levels = l.sampleSpace := by
  unfold Liu.lineBusyAt
  split
  next c hc => exact absurd hc (h c)
  · rfl

theorem Liu.lineBusyAt_char (l : Liu) (c : Byte) : l.lineBusyAt (charLevels c) = l.takeChar c := by
  rw [Liu.lineBusyAt, readChar_charLevels]

theorem Liu.tryDraw_of_gapWait {l : Liu} {e : TxEntry} {rest : List TxEntry} (hq : l.txq = e :: rest) (ha : l.access = .gapWait) :
    l.tryDraw = if !l.lineBusy && decide (l.rxq.length ≤ 3) then
      { l with backoff := backoffAdvance l.backoff, access := .slotWait (drawSlots e (backoffAdvance l.backoff)) } else l := by
  unfold Liu.tryDraw
  simp only [hq, ha, true_and]
  cases l.lineBusy <;> by_cases hr : l.rxq.length ≤ 3 <;> simp [hr]

theorem Liu.tryDraw_of_held_back {l : Liu} (h : l.txq = [] ∨ l.access ≠ .gapWait ∨ 4 ≤ l.rxq.length) : l.tryDraw = l := by
  unfold Liu.tryDraw
  split
  · rfl
  next e rest hq =>
    refine if_neg ?_
    rintro ⟨ha, -, hr⟩
    rcases h with h | h | h
    · simp [h] at hq
    · exact h ha
    · omega

/-- The end of a gap, before a wait is drawn (R7, R17). -/
def Liu.gapEnded (l : Liu) : Liu :=
  { l with receiver := if l.receiver.inProgress then .hunt else l.receiver, lineBusy := false,
           counters := if l.receiver.inProgress then { l.counters with malformed := inc16 l.counters.malformed } else l.counters }

theorem Liu.gapEnd_eq {l : Liu} (hs : l.access ≠ .sending) (hb : l.access ≠ .breaking) : l.gapEnd = l.gapEnded.tryDraw := by
  unfold Liu.gapEnd
  rw [if_neg (by simp [hs, hb])]
  dsimp only
  unfold Liu.gapEnded Liu.malformed
  split <;> rfl

theorem Liu.framingError_eq (l : Liu) : l.framingError = { l.sampleSpace with
    receiver := .hunt,
    counters := if l.receiver.inProgress then { l.counters with malformed := inc16 l.counters.malformed } else l.counters } := by
  unfold Liu.framingError Liu.malformed
  split <;> rfl

theorem Liu.breakHeard_eq (l : Liu) : l.breakHeard = { l.sampleSpace with
    receiver := .hunt,
    counters := if l.receiver.inProgress = true ∧ l.access ≠ .sending ∧ l.access ≠ .breaking then
      { l.counters with abortsHeard := inc16 l.counters.abortsHeard } else l.counters } := by
  unfold Liu.breakHeard
  simp only [← not_or]
  split <;> rfl

/-- Settles O4. -/
theorem lineAndReceiverEvents : Obligations.LineAndReceiverEvents := by
  refine ⟨⟨rfl, rfl, fun _ => ⟨rfl, rfl⟩⟩, fun s hr => ?_, fun s hr hs hb => ?_, fun s hr => ?_⟩
  · have char {c : Byte} {got : List Byte} (hl : s.station.liu.receiver = .holding got) (hlen : got = [] → c.toNat ≤ 48)
        (hmore : frameEnded (got ++ [c]) = false) :
        s.station.liu.lineBusyAt (charLevels c) = { s.station.liu.sampleSpace with receiver := .holding (got ++ [c]) } := by
      rw [Liu.lineBusyAt_char, Liu.takeChar_next hl hlen hmore]
    refine ⟨fun levels h => next_onLine hr (Liu.lineBusyAt_of_no_char h), fun c h hc => ?_, fun c got h h1 h2 => ?_,
      fun c got h h3 => ?_, fun c len rest h hmore => ?_⟩
    · exact next_onLine hr (char (got := []) h (fun _ => hc) (frameEnded_of_short (by simp)))
    · have taken := char (c := c) (h.trans (Receiver.holding_header (by omega)).symm) (by rintro rfl; simp at h1)
        (frameEnded_of_short (by simp; omega))
      rw [Receiver.holding_header (by simp; omega)] at taken
      exact next_onLine hr taken
    · have taken := char (c := c) (h.trans (Receiver.holding_header (by omega)).symm) (by rintro rfl; simp at h3)
        (frameEnded_of_short (by simp; omega))
      rw [Receiver.holding_body (by simp; omega)] at taken
      exact next_onLine hr taken
    · refine next_onLine hr ?_
      rw [Liu.lineBusyAt_char, Liu.takeChar]
      simp only [h, List.cons_append, frameEnded, List.length_append, List.length_singleton]
      rw [if_neg (by simpa using hmore)]
      rfl
  · refine ⟨fun e rest hq ha hrx => next_onLine hr ?_, fun h => next_onLine hr ?_⟩
    · rw [Liu.gapEnd_eq hs hb, Liu.tryDraw_of_gapWait (l := s.station.liu.gapEnded) hq ha]
      exact if_pos (by simpa [Liu.gapEnded] using hrx)
    · rw [Liu.gapEnd_eq hs hb, Liu.tryDraw_of_held_back (l := s.station.liu.gapEnded) h]
      rfl
  · refine ⟨fun front h hsync => next_onLine hr ?_, fun len h hlen => next_onLine hr ?_, fun levels h => next_onLine hr ?_,
      fun levels h => next_onLine hr ?_, fun levels h => next_onLine_same (if_neg h), fun levels h => next_onLine_same (if_neg h)⟩
    · exact (Liu.hunt_eq h _).trans (Liu.takeChars_syncPair h hsync)
    · rw [Liu.malformedLen, if_pos ⟨h, hlen⟩, Liu.takeChar_malformed h hlen]
      rfl
    · exact (if_pos h).trans s.station.liu.framingError_eq
    · exact (if_pos h).trans s.station.liu.breakHeard_eq

/-! ## A frame received, a frame of an unknown kind (R8, R10, R11) -/

theorem Liu.frameEnd_good {l : Liu} {chars : List Byte} {f : Frame} (hs : l.access ≠ .sending) (h : assemble chars = .good f) :
    l.frameEnd chars = if l.rxq.length ≤ 3 then { l with receiver := .hunt, rxq := l.rxq ++ [⟨f, false⟩] }
      else { l with receiver := .hunt, counters := { l.counters with overruns := inc16 l.counters.overruns } } := by
  simp only [Liu.frameEnd, hs, if_false, h]
  rfl

theorem Liu.frameEnd_badCheck {l : Liu} {chars : List Byte} (hs : l.access ≠ .sending) (h : assemble chars = .badCheck) :
    l.frameEnd chars = { l with receiver := .hunt, counters := { l.counters with crcErrors := inc16 l.counters.crcErrors } } := by
  simp only [Liu.frameEnd, hs, if_false, h]

/-- The rest of a frame's characters, with a CHECK that may be wrong, brought while the station does not send (R7, R8). -/
theorem Liu.frameReceived_eq {l : Liu} {f : Frame} {check : Word} {got rest : List Byte} (hbody : f.body.length ≤ 48) (hrest : rest ≠ [])
    (hl : l.receiver = .holding got) (hchars : f.covered ++ [(check >>> 8).truncate 8, check.truncate 8] = got ++ rest) :
    l.frameReceived rest = l.sampleSpace.frameEnd (f.covered ++ [(check >>> 8).truncate 8, check.truncate 8]) := by
  have len : (byteOf f.body.length).toNat = f.body.length := toNat_byteOf (by omega)
  rw [Liu.frameReceived, if_pos (hl ▸ Receiver.holding_inProgress got)]
  exact Liu.takeChars_frame (by omega) hchars (by simp [len]) hrest hl

theorem Liu.unknownKind_eq {l : Liu} {e : RxEntry} {rest : List RxEntry} (hq : l.rxq = e :: rest) (hk : e.frame.kind ∉ knownKinds) :
    l.unknownKind = { l with counters := { l.counters with unknownKinds := inc16 l.counters.unknownKinds } }.dequeue := by
  have unknown : knownKind e.frame.kind = false := by simpa [knownKind] using hk
  simp only [Liu.unknownKind, hq, unknown, Bool.false_eq_true, if_false]

/-- Settles O5: the frame's last character ends it whatever part was taken before, and `assemble` reads what was sent. -/
theorem frameReceivedAndUnknownKind : Obligations.FrameReceivedAndUnknownKind := by
  refine ⟨fun s f got rest hr hs hbody hrest hl => ?_, fun s e rest hr hq hk => next_onLine hr (Liu.unknownKind_eq hq hk)⟩
  have busy := mt (Liu.sampleSpace_sending s.station.liu).1 hs
  refine ⟨fun hchars => next_onLine hr ?_, fun check hcheck hchars => next_onLine hr ?_, fun c => ?_⟩
  · rw [Liu.frameReceived_eq hbody hrest hl hchars]
    exact Liu.frameEnd_good busy (assemble_chars hbody)
  · rw [Liu.frameReceived_eq hbody hrest hl hchars]
    exact Liu.frameEnd_badCheck busy (by rw [assemble_covered hbody, if_neg hcheck])
  · have progress : s.station.liu.receiver.inProgress = true := (congrArg _ hl).trans (Receiver.holding_inProgress got)
    exact (next_onLine hr (s.station.liu.lineBusyAt_char c)).trans (next_onLine hr (if_pos progress)).symm

end Sys2Proof.Machine
end

section
/-! A message is read back from the bytes it was built of (R27 to R39): one lemma for each code, number and flags byte, one for each body,
and the acceptance checks of the header (R26, R30). -/

namespace Sys2Proof.Machine

/-! ## Numbers, flags and codes (R27, R28) -/

theorem byteOf_mod (n : Nat) : (byteOf n).toNat = n % 256 := BitVec.toNat_ofNat n 8

theorem num16_bytes {n : Nat} (h : n ≤ 65535) : num16 (byteOf (n / 256)) (byteOf n) = n := by
  simp only [num16, byteOf_mod]
  omega

theorem byteOf_getLsbD (n : Nat) {i : Nat} (h : i < 8) : (byteOf n).getLsbD i = decide (n / 2 ^ i % 2 = 1) := by
  rw [byteOf, BitVec.getLsbD_ofNat, Nat.testBit_eq_decide_div_mod_eq]
  simp [h]

theorem flagByte_bits : ∀ b0 b1 b2 b3 b4 : Bool,
    (flagByte b0 b1 b2 b3 b4).getLsbD 0 = b0 ∧ (flagByte b0 b1 b2 b3 b4).getLsbD 1 = b1 ∧
      (flagByte b0 b1 b2 b3 b4).getLsbD 2 = b2 ∧ (flagByte b0 b1 b2 b3 b4).getLsbD 3 = b3 ∧
      (flagByte b0 b1 b2 b3 b4).getLsbD 4 = b4 := by decide

theorem flagByte_elems (b0 b1 b2 b3 b4 : Bool) : (flagByte b0 b1 b2 b3 b4)[0] = b0 ∧ (flagByte b0 b1 b2 b3 b4)[1] = b1 := by
  obtain ⟨h0, h1, -⟩ := flagByte_bits b0 b1 b2 b3 b4
  exact ⟨h0, h1⟩

theorem CallKind.ofCode_code (k : CallKind) : CallKind.ofCode k.code = some k := by cases k <;> rfl

theorem boolOfCode_codeOfBool (b : Bool) : boolOfCode (codeOfBool b) = some b := by cases b <;> rfl

theorem Result.ofCode_code (r : Result) : Result.ofCode r.code = some r := by cases r <;> rfl

theorem SpanKind.ofCode_code (k : SpanKind) : SpanKind.ofCode k.code = some k := by cases k <;> rfl

theorem PromptKind.ofCode_code (k : PromptKind) : PromptKind.ofCode k.code = some k := by cases k <;> rfl

theorem Level.ofCode_code (l : Level) : Level.ofCode l.code = some l := by cases l <;> rfl

theorem ClearReason.ofCode_code (r : ClearReason) : ClearReason.ofCode r.code = some r := by cases r <;> rfl

theorem Answer.ofCode_code (a : Answer) : Answer.ofCode a.code = some a := by cases a <;> rfl

theorem Which.ofBits_code (w : Which) : Which.ofBits w.code = some w := by cases w <;> rfl

theorem Which.code_le (w : Which) : w.code ≤ 2 := by cases w <;> decide

theorem TallyStatus.ofBits_code (t : TallyStatus) : TallyStatus.ofBits t.code = some t := by cases t <;> rfl

theorem TallyStatus.code_le (t : TallyStatus) : t.code ≤ 2 := by cases t <;> decide

/-! ## Tags, places, serials (R27) -/

theorem ciuAddr_bounds {a : Nat} (h : ciuAddr a = true) : 40 ≤ a ∧ a ≤ 47 := by simpa [ciuAddr] using h

theorem stationAddr_bounds {a : Nat} (h : stationAddr a = true) : 1 ≤ a ∧ a ≤ 24 := by simpa [stationAddr] using h

theorem Tag.ciu_byte {t : Tag} (h : t.Ok) : (byteOf t.ciu).toNat = t.ciu := by
  have := ciuAddr_bounds h.1
  exact toNat_byteOf (by omega)

theorem Tag.ofBytes_bytes {t : Tag} (h : t.Ok) : Tag.ofBytes (byteOf t.ciu) (byteOf t.num) = t := by
  rw [Tag.ofBytes, Tag.ciu_byte h, toNat_byteOf h.2]

theorem Place.ofBytes_bytes {p : Place} (h : p.Ok) : Place.ofBytes (byteOf (p.pos / 256)) (byteOf p.pos) p.flags = p := by
  obtain ⟨hpos, htier⟩ := h
  obtain ⟨pos, east, tier, window⟩ := p
  simp only at hpos htier
  simp only [Place.ofBytes, Place.flags, num16_bytes hpos, byteOf_mod, byteOf_getLsbD _ (show 4 < 8 by omega),
    byteOf_getLsbD _ (show 7 < 8 by omega), Place.mk.injEq, true_and]
  cases east <;> cases window <;> simp <;> omega

theorem Place.flags_window {p : Place} (h : p.Ok) : p.flags.getLsbD 7 = p.window := congrArg Place.window (Place.ofBytes_bytes h)

theorem serial_six {v : List Byte} (h : serialOk v = true) : ∃ a b c d e f, v = [a, b, c, d, e, f] := by
  have length : v.length = 6 := by
    simp only [serialOk, Bool.and_eq_true, beq_iff_eq] at h
    exact h.1
  match v, length with
  | [a, b, c, d, e, f], _ => exact ⟨a, b, c, d, e, f, rfl⟩

/-! ## The bodies of a station's messages (R34 to R39) -/

theorem readOffer_body {n : Nat} (hn : n ≤ 8) {t : Tag} {cost i : Nat} (ht : t.Ok) (h1 : 1 ≤ cost) (hc : cost ≤ 65534) (hi : i < n) :
    readOffer n (Msg.offer t cost i).body = some (.offer t cost i) := by
  simp [Msg.body, Tag.bytes, bytes16, readOffer, guarded, Tag.ofBytes_bytes ht, Tag.ciu_byte ht, ht.1, num16_bytes (show cost ≤ 65535 by omega),
    toNat_byteOf (show i ≤ 255 by omega), h1, hc, hi]

theorem readTake_body {n : Nat} (hn : n ≤ 8) {t : Tag} {cost i : Nat} (l : Bool) (ht : t.Ok) (hc : cost ≤ 65534) (hi : i < n) :
    readTake n (Msg.take t cost i l).body = some (.take t cost i l) := by
  simp [Msg.body, Tag.bytes, bytes16, readTake, guarded, Tag.ofBytes_bytes ht, Tag.ciu_byte ht, ht.1, num16_bytes (show cost ≤ 65535 by omega),
    toNat_byteOf (show i ≤ 255 by omega), hc, hi, flagByte_elems]

theorem readDone_body {d : Done} (h : d.Ok) : readDone (Msg.done d).body = some (.done d) := by
  obtain ⟨ht, hresult, hdrive, hserial, haccount⟩ := h
  obtain ⟨a, b, c, e, f, g, hv⟩ := serial_six hserial
  obtain ⟨tag, kind, result, driveNo, volume, account, ring, assisted⟩ := d
  simp only at ht hresult hdrive hserial haccount hv
  subst hv
  simp [Msg.body, Tag.bytes, bytes16, readDone, guarded, CallKind.ofCode_code, Result.ofCode_code, Tag.ofBytes_bytes ht, Tag.ciu_byte ht,
    ht.1, hresult, toNat_byteOf (show driveNo ≤ 255 by omega), hdrive, hserial, num16_bytes (show account ≤ 65535 by omega), haccount,
    flagByte_elems]

theorem readSpan_body {n : Nat} (hn : n ≤ 8) {i lo hi : Nat} (k : SpanKind) (f r : Bool) (hind : i < n) (hlo : lo ≤ hi)
    (hhi : hi ≤ 65535) : readSpan n (Msg.span i k lo hi f r).body = some (.span i k lo hi f r) := by
  simp [Msg.body, bytes16, readSpan, guarded, SpanKind.ofCode_code, toNat_byteOf (show i ≤ 255 by omega), hind,
    num16_bytes (show lo ≤ 65535 by omega), num16_bytes hhi, hlo, flagByte_elems]

theorem readNudge_body {n : Nat} (hn : n ≤ 8) {b i : Nat} (w : Bool) (hb : b ≤ 65535) (hi : i < n) :
    readNudge n (Msg.nudge w b i).body = some (.nudge w b i) := by
  simp [Msg.body, bytes16, readNudge, guarded, boolOfCode_codeOfBool, toNat_byteOf (show i ≤ 255 by omega), hi, num16_bytes hb]

theorem readClear_body {n : Nat} (r : ClearReason) (hn : n ≤ 255) : readClear (Msg.clear n r).body = some (.clear n r) := by
  simp [Msg.body, readClear, ClearReason.ofCode_code, toNat_byteOf hn]

/-- An optional field is read where its presence bit says so (R36). -/
theorem takeField_elim {α : Type} (o : Option α) (enc : α → List Byte) {n : Nat} (hn : ∀ a ∈ o, (enc a).length = n) (rest : List Byte) :
    takeField o.isSome n (o.elim [] enc ++ rest) = some (o.map enc, rest) := by
  cases o with
  | none => rfl
  | some a =>
    have length := hn a rfl
    simp [takeField, ← length]

theorem PromptFields.ofBytes_bytes {f : PromptFields} (h : f.inRange = true) (ht : ∀ t ∈ f.tag, t.num ≤ 255)
    (hp : ∀ x ∈ f.pos, x ≤ 65535) :
    PromptFields.ofBytes (flagByte f.tag.isSome f.volume.isSome f.pos.isSome f.drive.isSome f.peer.isSome) f.bytes.tail = some f := by
  obtain ⟨tag, volume, pos, drive, peer⟩ := f
  simp only [PromptFields.inRange, Bool.and_eq_true, Option.all_eq_true] at h
  obtain ⟨⟨⟨hciu, hserial⟩, hdrive⟩, hpeer⟩ := h
  simp only at ht hp hciu hserial hdrive hpeer
  have field {α : Type} (o : Option α) (enc : α → List Byte) (dec : List Byte → Option α) (hdec : ∀ a ∈ o, dec (enc a) = some a) :
      (o.map enc).bind dec = o := by
    cases o with
    | none => rfl
    | some a => exact hdec a rfl
  have readTag := field tag Tag.bytes tagOf fun t h => by
    simp [Tag.bytes, tagOf, Tag.ofBytes_bytes ⟨hciu t h, ht t h⟩]
  have readPos := field pos bytes16 num16Of fun x h => by simp [bytes16, num16Of, num16_bytes (hp x h)]
  have readDrive := field drive (fun d => [byteOf d]) num8Of fun d h => by
    have := hdrive d h
    simp only [decide_eq_true_eq] at this
    simp [num8Of, toNat_byteOf (show d ≤ 255 by omega)]
  have readPeer := field peer (fun a => [byteOf a]) num8Of fun a h => by
    have := stationAddr_bounds (hpeer a h)
    simp [num8Of, toNat_byteOf (show a ≤ 255 by omega)]
  have volumeBytes : volume.getD [] = volume.elim [] id := by cases volume <;> rfl
  have peerBytes : peer.elim [] (fun a => [byteOf a]) = peer.elim [] (fun a => [byteOf a]) ++ [] := (List.append_nil _).symm
  have serialLength : ∀ v ∈ volume, (id v : List Byte).length = 6 := fun v h => by
    obtain ⟨_, _, _, _, _, _, rfl⟩ := serial_six (hserial v h)
    rfl
  simp only [PromptFields.ofBytes, PromptFields.bytes, List.tail_cons, flagByte_bits, List.append_assoc, volumeBytes]
  rw [peerBytes, takeField_elim tag Tag.bytes fun _ _ => rfl]
  dsimp only
  rw [takeField_elim volume id serialLength]
  dsimp only
  rw [takeField_elim pos bytes16 fun _ _ => rfl]
  dsimp only
  rw [takeField_elim drive (fun d => [byteOf d]) (n := 1) fun _ _ => rfl]
  dsimp only
  rw [takeField_elim peer (fun a => [byteOf a]) (n := 1) fun _ _ => rfl]
  simp only [if_true, readTag, readPos, readDrive, readPeer, Option.map_id_fun, id_eq]

theorem length_elim_le {α : Type} (o : Option α) (enc : α → List Byte) {n : Nat} (hn : ∀ a ∈ o, (enc a).length ≤ n) :
    (o.elim [] enc).length ≤ n := by
  cases o with
  | none => exact Nat.zero_le _
  | some a => exact hn a rfl

theorem PromptFields.length_bytes {f : PromptFields} (h : f.inRange = true) : f.bytes.length ≤ 13 := by
  simp only [PromptFields.inRange, Bool.and_eq_true, Option.all_eq_true] at h
  have volume : (f.volume.getD []).length ≤ 6 := by
    cases hv : f.volume with
    | none => exact Nat.zero_le _
    | some v =>
      obtain ⟨_, _, _, _, _, _, rfl⟩ := serial_six (h.1.1.2 v hv)
      exact le_rfl
  have tag := length_elim_le f.tag Tag.bytes (n := 2) fun _ _ => le_rfl
  have pos := length_elim_le f.pos bytes16 (n := 2) fun _ _ => le_rfl
  have drive := length_elim_le f.drive (fun d => [byteOf d]) (n := 1) fun _ _ => le_rfl
  have peer := length_elim_le f.peer (fun a => [byteOf a]) (n := 1) fun _ _ => le_rfl
  simp only [PromptFields.bytes, List.length_cons, List.length_append]
  omega

theorem readPrompt_body {p : PromptMsg} (h : p.Ok) : readPrompt (Msg.prompt p).body = some (.prompt p) := by
  obtain ⟨hnum, hfits, hrange, htag, hpos⟩ := h
  obtain ⟨num, kind, level, fields⟩ := p
  have hfields := PromptFields.ofBytes_bytes hrange htag hpos
  simp only at hnum hfits hrange hfields
  have bytes : fields.bytes = flagByte fields.tag.isSome fields.volume.isSome fields.pos.isSome fields.drive.isSome fields.peer.isSome ::
      fields.bytes.tail := rfl
  rw [Msg.body, bytes]
  simp [readPrompt, PromptKind.ofCode_code, Level.ofCode_code, hfields, guarded, hfits, hrange, toNat_byteOf hnum]

theorem StoreFlags.nibble_le (f : StoreFlags) : f.nibble ≤ 15 := by
  have a := f.lost.toNat_le
  have b := f.invalid.toNat_le
  have c := f.held.toNat_le
  have d := f.busy.toNat_le
  unfold StoreFlags.nibble
  omega

theorem tallyPacked_flags (w : Which) (t : TallyStatus) (f : StoreFlags) :
    (⟨(tallyPacked w t f).getLsbD 4, (tallyPacked w t f).getLsbD 5, (tallyPacked w t f).getLsbD 6, (tallyPacked w t f).getLsbD 7⟩ :
      StoreFlags) = f := by
  have hw := w.code_le
  have ht := t.code_le
  obtain ⟨a, b, c, d⟩ := f
  simp only [tallyPacked, byteOf_getLsbD, Nat.reduceLT, StoreFlags.nibble, StoreFlags.mk.injEq]
  cases a <;> cases b <;> cases c <;> cases d <;> simp <;> omega

theorem readTally_body {t : TallyMsg} (hp : t.period ≤ 65535) (hf : t.first ≤ 255) (hr : tallyRecordsOk t.which t.records = true) :
    readTally (Msg.tally t).body = some (.tally t) := by
  have hw := t.which.code_le
  have ht := t.status.code_le
  have hn := t.flags.nibble_le
  have which : (tallyPacked t.which t.status t.flags).toNat % 4 = t.which.code := by
    rw [tallyPacked, byteOf_mod]
    omega
  have status : (tallyPacked t.which t.status t.flags).toNat / 4 % 4 = t.status.code := by
    rw [tallyPacked, byteOf_mod]
    omega
  have flags := tallyPacked_flags t.which t.status t.flags
  simp only [Msg.body, bytes16, List.cons_append, List.nil_append, readTally, which, status, Which.ofBits_code, TallyStatus.ofBits_code,
    guarded, hr, if_true, flags, num16_bytes hp, toNat_byteOf hf]

theorem tallyRecordsOk_length {w : Which} {r : List Byte} (h : tallyRecordsOk w r = true) : r.length ≤ 44 := by
  unfold tallyRecordsOk at h
  split at h <;> simp at h <;> omega

theorem statusBodyOk_length {n : Nat} {b : List Byte} (h : statusBodyOk n b = true) : b.length = 41 := by
  unfold statusBodyOk at h
  split at h
  · simp only [Bool.and_eq_true, decide_eq_true_eq] at h
    exact h.1.1.1.1.1
  · cases h

/-! ## The header (R26, R30) -/

theorem addrOf_byteOf {d : Nat} (h : d ≤ 63) : addrOf (byteOf d) = d := by
  rw [addrOf, byteOf_mod]
  omega

theorem DestOk.le {d : Nat} (h : DestOk d) : d ≤ 63 := by
  rcases h with h | h | h
  · have := stationAddr_bounds h
    omega
  · have := ciuAddr_bounds h
    omega
  · omega

theorem addrOf_srcByte {a : Nat} (h : stationAddr a = true) : addrOf (srcByte a) = a := by
  have := stationAddr_bounds h
  rw [addrOf, srcByte, byteOf_mod]
  omega

theorem DestOk.accepted {d : Nat} (h : DestOk d) :
    (stationAddr (addrOf (byteOf d)) || ciuAddr (addrOf (byteOf d)) || addrOf (byteOf d) == 60 || addrOf (byteOf d) == 61 ||
      addrOf (byteOf d) == 63) = true := by
  rw [addrOf_byteOf h.le]
  simp only [Bool.or_eq_true, beq_iff_eq]
  unfold DestOk at h
  tauto

theorem srcByte_class {a : Nat} (h : stationAddr a = true) : (srcByte a).getLsbD 6 = true := by
  have := stationAddr_bounds h
  rw [srcByte, byteOf_getLsbD _ (by omega)]
  simp
  omega

/-- A frame of a station's kind from a station passes the header checks. -/
theorem headerOk_frame {m : Msg} {addr dst : Nat} (ha : stationAddr addr = true) (hd : DestOk dst)
    (hk : ∀ a, senderOk m.code a = stationAddr a) : headerOk (m.frame addr dst) = true := by
  simp only [headerOk, Msg.frame, addrOf_srcByte ha, srcByte_class ha, hk, ha, hd.accepted]
  rfl

theorem accept_frame {n : Nat} {m : Msg} {addr dst : Nat} (ha : stationAddr addr = true) (hd : DestOk dst)
    (hk : ∀ a, senderOk m.code a = stationAddr a) : accept n (m.frame addr dst) = readBody n (m.frame addr dst) :=
  if_pos (headerOk_frame ha hd hk)

/-- The bytes of a station's message give it back, and fit a frame. -/
theorem readBody_sendable {n : Nat} (hn : n ≤ 8) {m : Msg} (hm : m.Sendable n) (addr dst : Nat) :
    readBody n (m.frame addr dst) = some m ∧ m.body.length ≤ 48 ∧ ∀ a, senderOk m.code a = stationAddr a := by
  cases m with
  | offer t c i =>
    obtain ⟨ht, h1, hc, hi⟩ := hm
    exact ⟨readOffer_body hn ht h1 hc hi, by simp [Msg.body, Tag.bytes, bytes16], fun _ => rfl⟩
  | take t c i l =>
    obtain ⟨ht, hc, hi⟩ := hm
    exact ⟨readTake_body hn l ht hc hi, by simp [Msg.body, Tag.bytes, bytes16], fun _ => rfl⟩
  | done d =>
    obtain ⟨_, _, _, _, _, _, hv⟩ := serial_six hm.2.2.2.1
    exact ⟨readDone_body hm, by simp [Msg.body, Tag.bytes, bytes16, hv], fun _ => rfl⟩
  | span i k lo hi f r =>
    obtain ⟨hind, hlo, hhi⟩ := hm
    exact ⟨readSpan_body hn k f r hind hlo hhi, by simp [Msg.body, bytes16], fun _ => rfl⟩
  | nudge w b i =>
    obtain ⟨hb, hi⟩ := hm
    exact ⟨readNudge_body hn w hb hi, by simp [Msg.body, bytes16], fun _ => rfl⟩
  | prompt p =>
    have fields := PromptFields.length_bytes hm.2.2.1
    exact ⟨readPrompt_body hm, by simp [Msg.body]; omega, fun _ => rfl⟩
  | clear k r => exact ⟨readClear_body r hm, by simp [Msg.body], fun _ => rfl⟩
  | tally t =>
    obtain ⟨hp, hf, hr⟩ := hm
    have records := tallyRecordsOk_length hr
    exact ⟨readTally_body hp hf hr, by simp [Msg.body, bytes16]; omega, fun _ => rfl⟩
  | status b =>
    have length := statusBodyOk_length hm
    exact ⟨if_pos hm, by simp [Msg.body, length], fun _ => rfl⟩
  | _ => exact hm.elim

/-- Settles O11. -/
theorem sentMessageIsAccepted : Obligations.SentMessageIsAccepted := by
  intro n addr dst m hn ha hd hm
  obtain ⟨body, length, kind⟩ := readBody_sendable hn hm addr dst
  exact ⟨(accept_frame ha hd kind).trans body, length, addrOf_srcByte ha, addrOf_byteOf hd.le⟩

/-! ## The other parties (R29, R33, R36, R37) -/

theorem headerOk_outside {k : Byte} {a dst : Nat} {body : List Byte} (hclass : ciuAddr a = true ∨ a = 60 ∨ a = 61) (hd : DestOk dst)
    (hk : senderOk k a = true) : headerOk ⟨k, byteOf a, byteOf dst, body⟩ = true := by
  have hle : 40 ≤ a ∧ a ≤ 63 := by
    rcases hclass with h | rfl | rfl
    · have := ciuAddr_bounds h
      omega
    · omega
    · omega
  have station : stationAddr a = false := by
    simp [stationAddr]
    omega
  have clear : (byteOf a).getLsbD 6 = false := by
    rw [byteOf_getLsbD _ (by omega)]
    simp
    omega
  have known : (ciuAddr a || a == 60 || a == 61) = true := by simpa [or_assoc] using hclass
  simp only [headerOk, addrOf_byteOf hle.2, station, clear, hk, hd.accepted, Bool.false_or, known]
  rfl

theorem accept_outside {n : Nat} {k : Byte} {a dst : Nat} {body : List Byte} (hclass : ciuAddr a = true ∨ a = 60 ∨ a = 61)
    (hd : DestOk dst) (hk : senderOk k a = true) :
    accept n ⟨k, byteOf a, byteOf dst, body⟩ = readBody n ⟨k, byteOf a, byteOf dst, body⟩ :=
  if_pos (headerOk_outside hclass hd hk)

theorem readDemountCall_body {c : Call} (h : c.Ok) (hk : c.kind = .demount) :
    readDemountCall c.tag.ciu (callBytes c) = some (.call c) := by
  obtain ⟨ht, hserial, haccount, hdrive, hplace, hwindow, hrest⟩ := h
  rw [if_pos hk] at hrest
  obtain ⟨hsource, hring, p, hret, hp⟩ := hrest
  obtain ⟨v1, v2, v3, v4, v5, v6, hv⟩ := serial_six hserial
  have notWindow := (Place.flags_window hplace).trans hwindow
  obtain ⟨tag, kind, urgent, volume, account, ring, source, driveNo, drive, ret⟩ := c
  simp only at ht hserial haccount hdrive hplace hwindow hk hsource hring hret hv notWindow
  subst hv hk hsource hring hret
  simp [callBytes, bytes16, Place.bytes, readDemountCall, boolOfCode_codeOfBool, guarded, hserial,
    num16_bytes (show account ≤ 65535 by omega), haccount, toNat_byteOf (show driveNo ≤ 255 by omega), hdrive, toNat_byteOf ht.2,
    Place.ofBytes_bytes hplace, Place.ofBytes_bytes hp]
  simpa using notWindow

theorem readMountCall_body {c : Call} (h : c.Ok) (hk : c.kind ≠ .demount) :
    readMountCall c.tag.ciu (callBytes c) = some (.call c) := by
  obtain ⟨ht, hserial, haccount, hdrive, hplace, hwindow, hrest⟩ := h
  rw [if_neg hk] at hrest
  obtain ⟨hret, p, hsource, hp⟩ := hrest
  obtain ⟨v1, v2, v3, v4, v5, v6, hv⟩ := serial_six hserial
  have notWindow := (Place.flags_window hplace).trans hwindow
  obtain ⟨tag, kind, urgent, volume, account, ring, source, driveNo, drive, ret⟩ := c
  simp only at ht hserial haccount hdrive hplace hwindow hk hsource hret hv notWindow
  subst hv hsource hret
  simp [callBytes, bytes16, Place.bytes, readMountCall, CallKind.ofCode_code, boolOfCode_codeOfBool, guarded, hserial, hk, flagByte_elems,
    num16_bytes (show account ≤ 65535 by omega), haccount, toNat_byteOf (show driveNo ≤ 255 by omega), hdrive, toNat_byteOf ht.2,
    Place.ofBytes_bytes hplace, Place.ofBytes_bytes hp]
  simpa using notWindow

theorem Msg.call_code (c : Call) : (c.kind = .demount ∧ (Msg.call c).code = 0x12) ∨ (c.kind ≠ .demount ∧ (Msg.call c).code = 0x11) := by
  by_cases h : c.kind = .demount <;> simp [Msg.code, h]

theorem accept_call {c : Call} (h : c.Ok) {n dst : Nat} (hd : DestOk dst) :
    accept n ⟨(Msg.call c).code, byteOf c.tag.ciu, byteOf dst, (Msg.call c).body⟩ = some (.call c) := by
  have ciu := ciuAddr_bounds h.1.1
  rcases Msg.call_code c with ⟨hk, code⟩ | ⟨hk, code⟩
  · rw [code, accept_outside (k := 0x12) (.inl h.1.1) hd h.1.1]
    exact Eq.trans (congrArg (fun a => readDemountCall a (callBytes c)) (addrOf_byteOf (by omega))) (readDemountCall_body h hk)
  · rw [code, accept_outside (k := 0x11) (.inl h.1.1) hd h.1.1]
    exact Eq.trans (congrArg (fun a => readMountCall a (callBytes c)) (addrOf_byteOf (by omega))) (readMountCall_body h hk)

/-- Settles O12. -/
theorem outsideMessageIsAccepted : Obligations.OutsideMessageIsAccepted := by
  intro n dst hd from_
  refine ⟨fun c h => accept_call h hd, fun st num a hst hnum => ?_, fun w first count hf h1 hc => ?_, fun p h1 hp => ?_, ?_, ?_, ?_, ?_⟩
  · have := stationAddr_bounds hst
    rw [accept_outside (.inr (.inl rfl)) hd rfl]
    simp [readBody, Msg.code, Msg.body, readReply, Answer.ofCode_code, guarded, toNat_byteOf (show st ≤ 255 by omega), hst, toNat_byteOf hnum]
  · have count8 : count ≤ 8 := hc.trans (by split <;> omega)
    have := w.code_le
    rw [accept_outside (.inr (.inr rfl)) hd rfl]
    simp [readBody, Msg.code, Msg.body, readTallyAsk, Which.ofBits_code, guarded, toNat_byteOf (show w.code ≤ 255 by omega), toNat_byteOf hf,
      toNat_byteOf (show count ≤ 255 by omega), h1, hc]
  · have period : readPeriod (bytes16 p) = some p := by simp [readPeriod, bytes16, guarded, num16_bytes hp, h1]
    rw [accept_outside (.inr (.inr rfl)) hd rfl, accept_outside (.inr (.inr rfl)) hd rfl]
    simp [readBody, Msg.code, Msg.body, period]
  · exact accept_outside (.inr (.inl rfl)) hd rfl
  · exact accept_outside (.inr (.inr rfl)) hd rfl
  · exact accept_outside (.inr (.inl rfl)) hd rfl
  · refine if_neg ?_
    simp [headerOk, from_, Msg.code, senderOk, addrOf_byteOf]

end Sys2Proof.Machine
end

section
/-! The transmit side of the line (R12 to R23): what joining, leaving, sending, colliding and hearing back do to queue and access, and what a
poster does when its frame was dropped. -/

namespace Sys2Proof.Machine

/-! ## Queues given by their parts -/

theorem requeueCollided_between {e : TxEntry} {front back : List TxEntry}
    (hfront : ∀ x ∈ front, x.frame.urgent = true ∧ e.frame.urgent = false)
    (hback : ∀ x xs, back = x :: xs → e.frame.urgent = true ∨ x.frame.urgent = false) :
    requeueCollided e (front ++ back) = front ++ e :: back := by
  induction front with
  | nil =>
    cases back with
    | nil => rfl
    | cons x xs =>
      refine if_neg ?_
      rcases hback x xs rfl with h | h <;> simp [h]
  | cons y ys ih =>
    obtain ⟨hy, hys⟩ := List.forall_mem_cons.1 hfront
    rw [List.cons_append, requeueCollided, if_pos (by simp [hy]), ih hys]
    rfl

theorem removeCollided_between {e : TxEntry} {front back : List TxEntry} (he : e.collided = true)
    (hfront : ∀ x ∈ front, x.collided = false) : removeCollided (front ++ e :: back) = some (e, front ++ back) := by
  induction front with
  | nil => exact if_pos he
  | cons y ys ih =>
    obtain ⟨hy, hys⟩ := List.forall_mem_cons.1 hfront
    rw [List.cons_append, removeCollided, if_neg (by simp [hy]), ih hys]
    rfl

theorem retryCollided_between {e : TxEntry} {front back : List TxEntry} (he : e.collided = true)
    (hfront : ∀ x ∈ front, x.collided = false) :
    retryCollided (front ++ e :: back) = front ++
      { e with collided := false, window := if e.frame.urgent then e.window else windowAfter e.collisions } :: back := by
  induction front with
  | nil => exact if_pos he
  | cons y ys ih =>
    obtain ⟨hy, hys⟩ := List.forall_mem_cons.1 hfront
    rw [List.cons_append, retryCollided, if_neg (by simp [hy]), ih hys]
    rfl

theorem insertByClass_between {e : TxEntry} {front back : List TxEntry} (he : e.frame.urgent = true)
    (hfront : ∀ x ∈ front, x.frame.urgent = true) (hback : ∀ x xs, back = x :: xs → x.frame.urgent = false) :
    insertByClass e (front ++ back) = front ++ e :: back := by
  induction front with
  | nil =>
    cases back with
    | nil => rfl
    | cons x xs => exact if_pos (by simp [he, hback x xs rfl])
  | cons y ys ih =>
    obtain ⟨hy, hys⟩ := List.forall_mem_cons.1 hfront
    rw [List.cons_append, insertByClass, if_neg (by simp [hy]), ih hys]
    rfl

theorem replaceSpan_between {e x : TxEntry} {front back : List TxEntry} (hx : x.frame.isSpan = true)
    (hfront : ∀ u ∈ front, u.frame.isSpan = false) : replaceSpan e (front ++ x :: back) = front ++ e :: back := by
  induction front with
  | nil => exact if_pos hx
  | cons y ys ih =>
    obtain ⟨hy, hys⟩ := List.forall_mem_cons.1 hfront
    rw [List.cons_append, replaceSpan, if_neg (by simp [hy]), ih hys]
    rfl

/-! ## Sending and collision (R17 to R20) -/

theorem Liu.collide_held {l : Liu} {e : TxEntry} {rest : List TxEntry} {f : Frame} (ha : l.access = .sending) (hq : l.txq = e :: rest)
    (he : e.frame.isSpan = true) (hf : l.heldSpan = some f) :
    l.collide = { l with access := .breaking, lineBusy := true, receiver := .hunt,
                         counters := { l.counters with collisions := inc16 l.counters.collisions },
                         heldSpan := none, txq := TxEntry.fresh .span f :: rest } := by
  simp only [Liu.collide, ha, hq, he, hf]

theorem Liu.collide_kept {l : Liu} {e : TxEntry} {rest : List TxEntry} (ha : l.access = .sending) (hq : l.txq = e :: rest)
    (he : e.frame.isSpan = false ∨ l.heldSpan = none) :
    l.collide = { l with access := .breaking, lineBusy := true, receiver := .hunt,
                         counters := { l.counters with collisions := inc16 l.counters.collisions },
                         txq := requeueCollided { e with collisions := satAdd 8 e.collisions 1, collided := true } rest } := by
  simp only [Liu.collide, ha, hq]
  rcases he with he | he
  · simp only [he]
  · simp only [he]
    cases e.frame.isSpan <;> rfl

/-- Settles O6. -/
theorem sendingAndCollision : Obligations.SendingAndCollision := by
  intro s e rest hr hq
  refine ⟨fun n ha => next_onLine hr ?_, fun f ha he hf => next_onLine hr (Liu.collide_held ha hq he hf),
    fun front back ha he hc hrest hfront hback => next_onLine hr ?_⟩
  · simp only [Liu.startSending, ha, hq]
  · have eighth : satAdd 8 e.collisions 1 = e.collisions + 1 := by
      unfold satAdd
      omega
    have placed := requeueCollided_between (e := { e with collisions := e.collisions + 1, collided := true }) hfront hback
    rw [Liu.collide_kept ha hq he, hrest, eighth, placed]
    rfl

/-! ## Joining and leaving the queue (R15 to R19) -/

/-- In GAP-WAIT the head's wait is drawn where the line is idle and a place is free, and else is owed still (R18). -/
def Liu.awaited (l : Liu) (x : TxEntry) : Liu :=
  if !l.lineBusy && decide (l.rxq.length ≤ 3) then
    { l with backoff := backoffAdvance l.backoff, access := .slotWait (drawSlots x (backoffAdvance l.backoff)) }
  else { l with access := .gapWait }

theorem Liu.tryDraw_gapWait {l : Liu} {x : TxEntry} {xs : List TxEntry} (hq : l.txq = x :: xs) :
    ({ l with access := .gapWait } : Liu).tryDraw = l.awaited x := Liu.tryDraw_of_gapWait hq rfl

theorem Liu.headChanged_slotWait {l : Liu} {n : Nat} {x : TxEntry} {xs : List TxEntry} (ha : l.access = .slotWait n)
    (hq : l.txq = x :: xs) : l.headChanged = l.awaited x := by
  simp only [Liu.headChanged, ha]
  rw [if_neg (by simp [hq]), Liu.tryDraw_gapWait hq]

theorem Liu.headChanged_emptied {l : Liu} (ha : l.access = .gapWait ∨ ∃ n, l.access = .slotWait n) (hq : l.txq = []) :
    l.headChanged = { l with access := .idle } := by
  rcases ha with ha | ⟨n, ha⟩ <;> simp only [Liu.headChanged, ha, hq, if_true]

theorem Liu.headChanged_queued {l : Liu} (hq : l.txq ≠ []) (ha : ∀ n, l.access ≠ .slotWait n) : l.headChanged = l := by
  unfold Liu.headChanged
  split
  next n hn => exact absurd hn (ha n)
  · exact if_neg hq
  · rfl

/-- A frame that joins without becoming the head of a waiting queue moves neither access nor generator (R18, R19). -/
theorem Liu.join_still {l : Liu} {e : TxEntry} (hi : l.access ≠ .idle)
    (hh : (∀ n, l.access ≠ .slotWait n) ∨ (l.insert e).head? = l.txq.head?) : l.join e = { l with txq := l.insert e } := by
  unfold Liu.join
  dsimp only
  split
  next h => exact absurd h hi
  next n h => exact if_pos (hh.resolve_left fun k => k n h)
  · rfl

/-- Outside IDLE and SLOT-WAIT posting moves neither access nor generator (R14, R18). -/
theorem Liu.post_still {l : Liu} {e : TxEntry} (hi : l.access ≠ .idle) (hs : ∀ n, l.access ≠ .slotWait n) :
    (l.post e).1.access = l.access ∧ (l.post e).1.backoff = l.backoff := by
  unfold Liu.post
  split
  · rw [Liu.join_still hi (.inl hs)]
    exact ⟨rfl, rfl⟩
  · split
    · split
      next v q _ =>
        rw [Liu.join_still (l := { l.countDrop with txq := q }) hi (.inl hs)]
        exact ⟨rfl, rfl⟩
      · exact ⟨rfl, rfl⟩
    · exact ⟨rfl, rfl⟩

/-- A frame that joins behind the head of a waiting queue leaves the wait as it is (R19). -/
theorem Liu.insert_head {l : Liu} {e x : TxEntry} {xs : List TxEntry} (hq : l.txq = x :: xs)
    (he : e.frame.urgent = false ∨ x.frame.urgent = true) : (l.insert e).head? = l.txq.head? := by
  have behind : insertByClass e (x :: xs) = x :: insertByClass e xs := if_neg (by rcases he with h | h <;> simp [h])
  unfold Liu.insert
  split
  next y ys _ hy => rw [hy]; rfl
  · rw [hq, behind]
    rfl

/-- A frame that joins a waiting queue at its head has its wait drawn (R19). -/
theorem Liu.join_ahead {l : Liu} {n : Nat} {e x : TxEntry} {xs : List TxEntry} (ha : l.access = .slotWait n) (hq : l.txq = x :: xs)
    (he : e.frame.urgent = true) (hx : x.frame.urgent = false) :
    l.join e = ({ l with txq := e :: x :: xs } : Liu).awaited e := by
  have ahead : l.insert e = e :: x :: xs := by
    simp only [Liu.insert, ha, hq]
    exact if_pos (by simp [he, hx])
  have changed : (e :: x :: xs).head? ≠ (x :: xs).head? := by
    rintro h
    obtain rfl := Option.some.inj h
    simp [he] at hx
  simp only [Liu.join, ha, ahead, hq, if_neg changed]
  exact Liu.headChanged_slotWait (l := { l with access := .slotWait n, txq := e :: x :: xs }) rfl rfl

theorem Liu.spanInTransmission_waiting {l : Liu} (ha : l.access ≠ .sending) : l.spanInTransmission = false := by
  simp [Liu.spanInTransmission, ha]

/-- A SPAN withdrawn at the head leaves the queue behind it (R16). -/
theorem Liu.withdrawSpan_head {l : Liu} {x : TxEntry} {xs : List TxEntry} (ha : l.access ≠ .sending) (hq : l.txq = x :: xs)
    (hx : x.frame.isSpan = true) : l.withdrawSpan = (({ l with heldSpan := none, txq := xs } : Liu).headChanged, false) := by
  have removed : removeSpan (x :: xs) = xs := if_pos hx
  simp only [Liu.withdrawSpan, Liu.spanInTransmission_waiting ha, hq, removed, List.head?_cons, Option.any_some, hx, if_true]
  rfl

/-- A SPAN posted while one is queued takes its place (R15). -/
theorem Liu.postSpan_replaces {l : Liu} {f : Frame} {front back : List TxEntry} {x : TxEntry} (ht : l.spanInTransmission = false)
    (hq : l.txq = front ++ x :: back) (hx : x.frame.isSpan = true) (hfront : ∀ u ∈ front, u.frame.isSpan = false) :
    l.postSpan f = (if front = [] then ({ l with txq := front ++ TxEntry.fresh .span f :: back } : Liu).headChanged
      else { l with txq := front ++ TxEntry.fresh .span f :: back }, none) := by
  have queued : l.spanQueued = true := by simp [Liu.spanQueued, hq, hx]
  have atHead : ((front ++ x :: back).head?.any fun u => u.frame.isSpan) = decide (front = []) := by
    cases front with
    | nil => simp [hx]
    | cons y ys => simp [hfront y]
  simp only [Liu.postSpan, ht, queued, if_true, hq, replaceSpan_between hx hfront, Bool.false_eq_true, if_false, atHead, decide_eq_true_eq]

/-- Settles O9. -/
theorem queueMovesTheAccess : Obligations.QueueMovesTheAccess := by
  intro l b f e next
  have room {l : Liu} {e : TxEntry} (h : l.txq.length ≤ 5) : l.post e = (l.join e, none) := Liu.post_of_room h
  have answer {α : Type} {x y : Liu} {a : α} (h : x = y) : (x, a) = (y, a) := congrArg (fun z => (z, a)) h
  refine ⟨fun ha hq => ?_, fun n x xs ha hq hl => ⟨fun hf hx => ?_, fun hf => ?_⟩, fun ha => ?_,
    fun front x back ht hq hx hfront => ⟨fun h => ?_, fun n h ha => ?_⟩, fun n x xs ha hq hx => ⟨fun hxs => ?_, fun u us hxs => ?_⟩,
    fun x ha hq hx => ?_⟩
  · rw [room (by simp [hq])]
    simp only [Liu.join, Liu.insert, ha, hq, insertByClass]
    rw [Liu.tryDraw_gapWait (l := { l with txq := [e] }) (x := e) (xs := []) rfl]
    rfl
  · rw [room hl, Liu.join_ahead ha hq hf hx]
    rfl
  · rw [room hl, Liu.join_still (by simp [ha]) (.inr (Liu.insert_head hq hf))]
    exact ⟨rfl, rfl⟩
  · rcases ha with ha | ha | ha <;> exact Liu.post_still (by simp [ha]) (by simp [ha])
  · rw [Liu.postSpan_replaces ht hq hx hfront]
    split
    next hnil => exact answer (Liu.headChanged_queued (by simp) (h.resolve_left fun k => k hnil))
    · rfl
  · subst h
    rw [Liu.postSpan_replaces ht hq hx hfront, if_pos rfl]
    exact answer (Liu.headChanged_slotWait (n := n) ha rfl)
  · rw [Liu.withdrawSpan_head (by simp [ha]) hq hx]
    exact answer (Liu.headChanged_emptied (.inr ⟨n, ha⟩) hxs)
  · rw [Liu.withdrawSpan_head (by simp [ha]) hq hx]
    exact answer (Liu.headChanged_slotWait (n := n) ha hxs)
  · rw [Liu.withdrawSpan_head (by simp [ha]) hq hx]
    exact answer (Liu.headChanged_emptied (.inl ha) rfl)

/-! ## The end of the own break (R21) and hearing back (R23) -/

theorem Liu.breakEnd_kept {l : Liu} {e : TxEntry} {front back : List TxEntry} (hq : l.txq = front ++ e :: back)
    (he : e.collided = true) (hfront : ∀ x ∈ front, x.collided = false) (hc : e.collisions < 8) :
    l.breakEnd = ({ l with access := .gapWait, txq := front ++
      { e with collided := false, window := if e.frame.urgent then e.window else windowAfter e.collisions } :: back }, none) := by
  simp only [Liu.breakEnd, hq, removeCollided_between he hfront, retryCollided_between he hfront, if_neg (Nat.not_le.2 hc), Liu.waitOrIdle]
  simp

theorem Liu.breakEnd_dropped {l : Liu} {e : TxEntry} {front back : List TxEntry} (hq : l.txq = front ++ e :: back)
    (he : e.collided = true) (hfront : ∀ x ∈ front, x.collided = false) (hc : 8 ≤ e.collisions)
    (hs : e.frame.isSpan = false ∨ l.heldSpan = none) :
    l.breakEnd = ({ l with access := if front ++ back = [] then .idle else .gapWait, txq := front ++ back,
                           counters := { l.counters with drops := inc16 l.counters.drops } }, some e) := by
  have admitted (y : Liu) (hy : y.heldSpan = l.heldSpan) : (if e.frame.isSpan = true then y.admitHeld else y) = y := by
    rcases hs with hs | hs
    · exact if_neg (by simp [hs])
    · rw [Liu.admitHeld, hy, hs]
      exact ite_self y
  simp only [Liu.breakEnd, hq, removeCollided_between he hfront, if_pos hc]
  rw [admitted { l.countDrop with txq := front ++ back } rfl]
  rfl

theorem exec_breakSentEnd (s : State) : exec .breakSentEnd s = .next { s with station := s.station.onBreakSentEnd } := rfl

theorem Station.onBreakSentEnd_eq {s : Station} (hr : s.liu.running = true) (ha : s.liu.access = .breaking) {r : Liu × Option TxEntry}
    (h : s.liu.breakEnd = r) : s.onBreakSentEnd = (s.settle r (r.1.txq.map (·.frame))).finish := by
  rw [Station.onBreakSentEnd, if_pos ⟨hr, ha⟩, h]

/-- The frame sent comes back with the own mark where a place is free (R10, R23). -/
theorem Liu.heardBack_eq {l y : Liu} {e : TxEntry} {rest : List TxEntry} (ha : l.access = .sending) (hq : l.txq = e :: rest)
    (hrx : l.rxq.length ≤ 3)
    (hy : (if e.frame.isSpan = true then ({ l with txq := rest, receiver := .hunt, access := .gapWait } : Liu).admitHeld
      else { l with txq := rest, receiver := .hunt, access := .gapWait }) = y) (hrxq : y.rxq = l.rxq) :
    l.heardBack = { y with access := if y.txq = [] then .idle else .gapWait, rxq := l.rxq ++ [⟨e.frame, true⟩] } := by
  simp only [Liu.heardBack, ha, hq]
  rw [hy]
  simp only [Liu.enqueue, Liu.waitOrIdle, hrxq, hrx, if_true]

/-! ## What a poster does when it is told (R60, R81, R86, R106, R111, R117, R142, R164, R165) -/

/-- A frame like this one was posted after it, of the class of frames for which one record stands (R33 to R37, log 58). -/
theorem no_like_iff {m : Msg} {addr dst : Nat} {newer : List Frame} :
    (newer.filter (m.frame addr dst).like).length = 0 ↔
      ¬ ∃ g ∈ newer, g.kind = m.code ∧ g.dst = byteOf dst ∧ (m.code = 0x32#8 ∨ g.body.take 2 = m.body.take 2) := by
  rw [List.length_eq_zero_iff, List.filter_eq_nil_iff]
  simp only [Frame.like, Msg.frame, Bool.and_eq_true, Bool.or_eq_true, beq_iff_eq, not_exists, not_and, and_assoc]
  rfl

section Told

variable {s : Station} {addr dst : Nat} {newer : List Frame}

theorem Station.reportDrop_offer {t : Tag} (ht : t.Ok) {cost : Nat} (hc : cost ≤ 65535) (i : Nat) :
    s.reportDrop ((Msg.offer t cost i).frame addr dst) newer =
      if (newer.filter ((Msg.offer t cost i).frame addr dst).like).length = 0 then s.offerDropped t cost else s := by
  have read : s.reportDrop ((Msg.offer t cost i).frame addr dst) newer =
      if (newer.filter ((Msg.offer t cost i).frame addr dst).like).length = 0 then
        s.offerDropped (Tag.ofBytes (byteOf t.ciu) (byteOf t.num)) (num16 (byteOf (cost / 256)) (byteOf cost)) else s := rfl
  rw [read, Tag.ofBytes_bytes ht, num16_bytes hc]

theorem Station.reportDrop_take {t : Tag} (ht : t.Ok) {cost : Nat} (hc : cost ≤ 65535) (i : Nat) (l : Bool) :
    s.reportDrop ((Msg.take t cost i l).frame addr dst) newer =
      if (newer.filter ((Msg.take t cost i l).frame addr dst).like).length = 0 then s.takeDropped t cost else s := by
  have read : s.reportDrop ((Msg.take t cost i l).frame addr dst) newer =
      if (newer.filter ((Msg.take t cost i l).frame addr dst).like).length = 0 then
        s.takeDropped (Tag.ofBytes (byteOf t.ciu) (byteOf t.num)) (num16 (byteOf (cost / 256)) (byteOf cost)) else s := rfl
  rw [read, Tag.ofBytes_bytes ht, num16_bytes hc]

theorem Station.reportDrop_done {d : Done} (hd : d.Ok) : s.reportDrop ((Msg.done d).frame addr dst) newer = s.doneDropped d := by
  have read : s.reportDrop ((Msg.done d).frame addr dst) newer =
      (match readDone (Msg.done d).body with | some (.done d) => s.doneDropped d | _ => s) := rfl
  rw [read, readDone_body hd]

theorem Station.reportDrop_span (i : Nat) (k : SpanKind) (lo hi : Nat) (f r : Bool) :
    s.reportDrop ((Msg.span i k lo hi f r).frame addr dst) newer = s.spanDropped (k == .moving) := by
  cases k <;> rfl

theorem Station.reportDrop_nudge (hd : dst ≤ 63) (w : Bool) (b r : Nat) :
    s.reportDrop ((Msg.nudge w b r).frame addr dst) newer =
      if (newer.filter ((Msg.nudge w b r).frame addr dst).like).length = 0 then s.nudgeDropped dst else s := by
  have read : s.reportDrop ((Msg.nudge w b r).frame addr dst) newer =
      if (newer.filter ((Msg.nudge w b r).frame addr dst).like).length = 0 then s.nudgeDropped (addrOf (byteOf dst)) else s := rfl
  rw [read, addrOf_byteOf hd]

theorem Station.reportDrop_prompt {p : PromptMsg} (hp : p.num ≤ 255) :
    s.reportDrop ((Msg.prompt p).frame addr dst) newer = s.promptDropped p.num (some p.level) := by
  conv => rhs; rw [← Level.ofCode_code, ← toNat_byteOf hp]
  rfl

theorem Station.reportDrop_clear {n : Nat} (hn : n ≤ 255) (r : ClearReason) :
    s.reportDrop ((Msg.clear n r).frame addr dst) newer =
      s.clearDropped n (some r) (newer.filter ((Msg.clear n r).frame addr dst).like).length := by
  have read : s.reportDrop ((Msg.clear n r).frame addr dst) newer =
      s.clearDropped (byteOf n).toNat (ClearReason.ofCode r.code) (newer.filter ((Msg.clear n r).frame addr dst).like).length := rfl
  rw [read, toNat_byteOf hn, ClearReason.ofCode_code]

theorem DoneRecord.ext_of {x : DoneRecord} {d : Done} {t : Option Nat} (h : x.done = d ∧ x.timer = t) : x = ⟨d, t⟩ := by
  obtain ⟨rfl, rfl⟩ := h
  rfl

theorem startRepost_between {d : Done} {front back : List DoneRecord} (hfront : ∀ r ∈ front, r ≠ ⟨d, none⟩) :
    startRepost d (front ++ ⟨d, none⟩ :: back) = front ++ ⟨d, some 100⟩ :: back := by
  induction front with
  | nil => exact if_pos ⟨rfl, rfl⟩
  | cons x xs ih =>
    obtain ⟨hx, hxs⟩ := List.forall_mem_cons.1 hfront
    rw [List.cons_append, startRepost, if_neg (fun h => hx (DoneRecord.ext_of h)), ih hxs]
    rfl

theorem startRepost_none {d : Done} {l : List DoneRecord} (h : ∀ r ∈ l, r ≠ ⟨d, none⟩) : startRepost d l = l := by
  induction l with
  | nil => rfl
  | cons x xs ih =>
    obtain ⟨hx, hxs⟩ := List.forall_mem_cons.1 h
    rw [startRepost, if_neg (fun h => hx (DoneRecord.ext_of h)), ih hxs]

end Told

theorem Station.offerDropped_eq (s : Station) (t : Tag) (cost : Nat) :
    s.offerDropped t cost = s.updateEntry t fun e =>
      if e.state = .bidding ∧ e.ownOffer.map (fun o => o.cost) = some cost then
        { e with ownOffer := none, state := if e.phase = .none ∧ e.best = none then .heard else .bidding } else e := by
  unfold Station.offerDropped
  congr 1
  funext e
  have costs : (e.ownOffer.any fun o => o.cost == cost) = true ↔ e.ownOffer.map (fun o => o.cost) = some cost := by
    cases e.ownOffer <;> simp
  have timers : (e.phase ≠ .none ∨ e.best.isSome = true) ↔ ¬ (e.phase = .none ∧ e.best = none) := by
    rw [not_and_or, Option.isSome_iff_ne_none]
  simp only [costs, timers]
  by_cases h : e.phase = .none ∧ e.best = none <;> simp [h]

theorem Station.takeDropped_of_not_taking {s : Station} {t : Tag} (cost : Nat) (h : ∀ e, s.req.find t = some e → e.state ≠ .taking) :
    s.takeDropped t cost = s := by
  unfold Station.takeDropped
  split
  next e he => exact if_neg fun k => h e he k.1
  · rfl

theorem Station.takeDropped_reassert (s : Station) (t : Tag) : s.takeDropped t 0 = s := by
  unfold Station.takeDropped
  split <;> simp

theorem Station.takeDropped_taking {s : Station} {t : Tag} {cost : Nat} {e : Entry} (hc : cost ≠ 0) (he : s.req.find t = some e)
    (hs : e.state = .taking) : s.takeDropped t cost = (s.updateEntry t Entry.toHeard).leaveOwned t := by
  simp only [Station.takeDropped, he]
  exact if_pos ⟨hs, hc⟩

theorem Station.spanDropped_asking {s : Station} (h : s.span.reservation = .asking) :
    s.spanDropped true = { s with span := { s.span with
      reservation := .waiting, waitTimer := some 100, firstFree := true,
      own := match s.span.rest with | some p => some (s.restSpan p) | none => s.span.own } } := by
  rw [Station.spanDropped, if_pos ⟨h, rfl⟩]
  unfold Station.ownToRest
  cases s.span.rest <;> rfl

/-- Settles O7. -/
theorem breakEndAndHeardBack : Obligations.BreakEndAndHeardBack := by
  refine ⟨fun s e front back hr ha hq he hfront => ⟨fun hc => ?_, fun hc hs => ?_⟩, fun s e rest hr ha hq hrx =>
    ⟨fun hs => next_onLine hr ?_, fun f front back he hf hspan hrest hfront hback => next_onLine hr ?_⟩,
    fun s addr dst newer haddr hdst => ?_⟩
  · rw [exec_breakSentEnd, Station.onBreakSentEnd_eq hr ha (Liu.breakEnd_kept hq he hfront hc)]
    rfl
  · rw [exec_breakSentEnd, Station.onBreakSentEnd_eq hr ha (Liu.breakEnd_dropped hq he hfront hc hs)]
    rfl
  · have admitted (y : Liu) (hy : y.heldSpan = s.station.liu.heldSpan) : (if e.frame.isSpan = true then y.admitHeld else y) = y := by
      rcases hs with hs | hs
      · rw [Liu.admitHeld, hy, hs]
        exact ite_self y
      · exact if_neg (by simp [hs])
    exact Liu.heardBack_eq ha hq hrx (admitted _ rfl) rfl
  · have placed := insertByClass_between (e := TxEntry.fresh .span f) (Frame.urgent_of_isSpan hspan) hfront hback
    rw [Liu.heardBack_eq (y := { s.station.liu with
      txq := front ++ TxEntry.fresh .span f :: back, heldSpan := none, receiver := .hunt, access := .gapWait }) ha hq hrx ?_ rfl]
    · simp [TxEntry.fresh]
    · simp only [he, if_true, Liu.admitHeld, hf, hrest, placed]
  · intro told again heard
    refine ⟨fun t cost i ht hc => ⟨fun h => ?_, fun h => ?_⟩, fun t cost i l ht hc => ⟨fun h => ?_, fun e h hc0 he hs => ?_⟩,
      fun d hd => ⟨fun front back hl hfront => ?_, fun h => ?_⟩, fun i k lo hi f r => ⟨fun hk ha => ?_, fun h => ?_⟩,
      fun w b r => ⟨fun h => ?_, fun h => ?_⟩, fun p hp => ?_, fun n r hn => ?_, fun t => rfl, fun b => rfl⟩
    · exact (Station.reportDrop_offer ht hc i).trans (if_neg fun k => no_like_iff.1 k h)
    · exact (Station.reportDrop_offer ht hc i).trans ((if_pos (no_like_iff.2 h)).trans (s.offerDropped_eq t cost))
    · refine (Station.reportDrop_take ht hc i l).trans ?_
      rcases h with h | rfl | h
      · exact if_neg fun k => no_like_iff.1 k h
      · rw [s.takeDropped_reassert t, ite_self]
      · rw [Station.takeDropped_of_not_taking cost h, ite_self]
    · exact (Station.reportDrop_take ht hc i l).trans ((if_pos (no_like_iff.2 h)).trans (Station.takeDropped_taking hc0 he hs))
    · refine (Station.reportDrop_done hd).trans ?_
      rw [Station.doneDropped, hl, startRepost_between hfront]
    · refine (Station.reportDrop_done hd).trans ?_
      rw [Station.doneDropped, startRepost_none h]
    · subst hk
      exact (Station.reportDrop_span i .moving lo hi f r).trans (Station.spanDropped_asking ha)
    · refine (Station.reportDrop_span i k lo hi f r).trans (if_neg ?_)
      rintro ⟨ha, hk⟩
      rcases h with h | h
      · exact h (by simpa using hk)
      · exact h ha
    · exact (Station.reportDrop_nudge hdst.le w b r).trans (if_neg fun k => no_like_iff.1 k h)
    · exact (Station.reportDrop_nudge hdst.le w b r).trans (if_pos (no_like_iff.2 h))
    · refine (Station.reportDrop_prompt hp).trans ?_
      simp only [Station.promptDropped, Option.some.injEq]
    · refine (Station.reportDrop_clear hn r).trans ?_
      congr 2
      apply List.filter_congr
      intro g _
      rw [Bool.eq_iff_iff]
      simp only [Frame.like, Msg.frame, Msg.code, Msg.body, Bool.and_eq_true, Bool.or_eq_true, beq_iff_eq, and_assoc]
      simp only [BitVec.reduceEq, false_or, List.take]
      exact decide_eq_true_iff.symm

/-- Settles O2. -/
theorem endOfEventAndHandingOut : Obligations.EndOfEventAndHandingOut := by
  refine ⟨⟨Station.finish_sameBase, Station.finish_of_quiet⟩, fun s => ?_, fun s f rest every act hr hq h => ?_⟩
  · obtain ⟨-, -, hbusy, hreceiver, hrxq⟩ := s.liu.dequeue_rx
    refine ⟨hrxq, rfl, s.liu.dequeue_txq, s.liu.dequeue_counters, s.liu.dequeue_heldSpan, hreceiver, hbusy, fun ha => ?_⟩
    rw [Station.dequeue, s.liu.dequeue_of_ne ha]
  · have refused : s.takeFrame every act ⟨f, false⟩ = s := by
      unfold Station.takeFrame
      rcases h with h | ⟨rfl, hready, hlearning⟩
      · simp [h]
      · have deaf : s.hearing = false := by simp [Station.hearing, hready, hlearning]
        split <;> simp [deaf]
    rw [Station.hear, hq]
    simp [hr, refused]

end Sys2Proof.Machine
end

section
/-! Start-up, configuration, rail order, the end of learning, STATUS and RESTART (R25, R40 to R61, R173 to R175). -/

namespace Sys2Proof.Machine

/-! ## Starts (R173 to R175) -/

theorem foldl_chargeQuiet_table (incs : List Increment) (st : RetainedStore) :
    (incs.foldl RetainedStore.chargeQuiet st).table = incs.foldl (fun a i => (a.charge i).1) st.table := by
  induction incs generalizing st with
  | nil => rfl
  | cons i is ih => exact ih (st.chargeQuiet i)

/-- A start that keeps the store, said field by field (R174, R175). -/
theorem RetainedStore.kept_eq (st : RetainedStore) : st.kept = { st with
    occupancy := [], occLost := satAdd 65535 st.occLost st.occupancy.length,
    snapInvalid := st.snapInvalid || (st.snapHeld && decide (crc (st.snapshot.records.flatMap Slot.bytes) ≠ st.snapshot.check)),
    snapshot := if st.closeBusy then Snapshot.empty else st.snapshot, closeBusy := false,
    pendingIncs := if st.closeBusy then [] else st.pendingIncs,
    closing := if st.closeBusy then CloseRecord.idle else st.closing,
    table := if st.closeBusy then st.pendingIncs.foldl (fun a i => (a.charge i).1) st.table else st.table } := by
  have invalid : (if st.snapHeld = true ∧ crc (st.snapshot.records.flatMap Slot.bytes) ≠ st.snapshot.check then true
      else st.snapInvalid) =
      (st.snapInvalid || (st.snapHeld && decide (crc (st.snapshot.records.flatMap Slot.bytes) ≠ st.snapshot.check))) := by
    by_cases h : crc (st.snapshot.records.flatMap Slot.bytes) ≠ st.snapshot.check <;> cases st.snapHeld <;> simp [h]
  unfold RetainedStore.kept
  rw [foldl_chargeQuiet_table, ← invalid]
  by_cases hi : st.snapHeld = true ∧ crc (st.snapshot.records.flatMap Slot.bytes) ≠ st.snapshot.check
  · cases hb : st.closeBusy <;> simp [hi]
  · cases hb : st.closeBusy <;> simp only [if_neg hi, if_true, Bool.false_eq_true, if_false]

theorem AccRecord.resetAll_none : ∀ r ∈ AccRecord.resetAll, r.status = .none ∧ r.displaced = false := by decide

/-- Settles O13. -/
theorem resetsStartsAndSupplyLoss : Obligations.ResetsStartsAndSupplyLoss := by
  refine ⟨fun s => ⟨fun h => next_station ?_, fun h => next_station (if_pos h)⟩,
    fun s => ⟨fun h => ⟨next_station (if_pos h), { Config.lostStore s.station.free with valid := false }, rfl, next_station (if_pos h)⟩,
      fun h hb => next_station ?_, fun h hb => ⟨{ Config.lostStore s.station.free with valid := false }, rfl, next_station ?_⟩⟩,
    fun s h hm => ⟨_, next_station (if_pos ⟨h, hm⟩), ?_⟩, fun st => ?_⟩
  · simp [Station.onPowerOn, h, Station.hold]
  · simp [Station.onVbakLoss, h, hb]
  · simp [Station.onVbakLoss, h, hb, Station.loseStore]
  · exact ⟨rfl, rfl, rfl, rfl, rfl, rfl, rfl, rfl, rfl, rfl, rfl, rfl, rfl, rfl, rfl, rfl, rfl, rfl, rfl, rfl, rfl, rfl, rfl, rfl, rfl,
      rfl, rfl, rfl, rfl, rfl, rfl, rfl, rfl, rfl, rfl, rfl, rfl, AccRecord.resetAll_none, rfl, rfl⟩
  · rw [st.kept_eq]
    refine ⟨rfl, rfl, rfl, rfl, rfl, rfl, rfl, rfl, rfl, rfl, rfl, rfl, by simp, fun h => ?_, fun h => ?_⟩
    · simp [h]
    · simp [h, Snapshot.empty]

/-! ## Configuration (R42 to R46) -/

theorem blockGood_iff {b : List Byte} (h : b.length = 32) :
    blockGood b = true ↔ (b.map BitVec.toNat).sum % 256 = 0 ∧ (1 ≤ blockByte b 0 ∧ blockByte b 0 ≤ 24) ∧
      (2 ≤ blockByte b 1 ∧ blockByte b 1 ≤ 8) ∧ blockWord b 3 < blockWord b 5 := by
  have sum : blockSum b = 0 ↔ (b.map BitVec.toNat).sum % 256 = 0 := Iff.rfl
  simp only [blockGood, h, stationAddr, Bool.and_eq_true, decide_eq_true_iff, and_assoc, true_and, sum]

theorem exec_configReadComplete (s : State) (b : List Byte) :
    exec (.configReadComplete b) s = .next { s with station := s.station.onConfigRead b } := rfl

theorem Station.onConfigRead_of_bad {s : Station} {b : List Byte} (hm : s.ctl.mode = .config) (hb : ¬ blockGood b = true) :
    s.onConfigRead b = s.enterOffline .configBad := by rw [Station.onConfigRead, if_pos hm, if_neg hb]

theorem Station.onConfigRead_of_good {s : Station} {b : List Byte} (hm : s.ctl.mode = .config) (hb : blockGood b = true) :
    s.onConfigRead b = s.configure (readConfig b) := by rw [Station.onConfigRead, if_pos hm, if_pos hb]

/-- Settles O15. -/
theorem configBlockIsRead : Obligations.ConfigBlockIsRead := by
  refine ⟨fun s b hm hl hbad => ?_, fun s b hm hi hl hsum ha1 ha2 hn1 hn2 hrail => ?_⟩
  · rw [exec_configReadComplete, Station.onConfigRead_of_bad hm]
    rw [blockGood_iff hl]
    omega
  · intro c x
    have good : blockGood b = true := (blockGood_iff hl).2 ⟨hsum, ⟨ha1, ha2⟩, ⟨hn1, hn2⟩, hrail⟩
    have read : readConfig b = c := by simp [readConfig, clamp, c]
    rw [exec_configReadComplete, Station.onConfigRead_of_good hm good, read]
    have fits : c.railFits = decide ((c.n - 1) * (2 * c.H + c.G) ≤ c.railHi - c.railLo) := rfl
    have unlearnt : s.station.k = 0 := by rw [Station.k, hi, Option.getD_none]
    refine ⟨fun h => next_station ?_, fun h => next_station ?_⟩
    · rw [Station.configure, if_pos (by rw [fits]; exact decide_eq_true h)]
    · rw [Station.configure, if_neg (by rw [fits]; simpa using h)]
      exact congrArg (fun k => { x.enterOffline .geometryBad with
        liu := { (x.enterOffline .geometryBad).liu with backoff := backoffSeed c.address k } }) unlearnt

/-! ## The order index and the chain (R48 to R53) -/

/-- Settles O17. -/
theorem orderIndexIsTaken : Obligations.OrderIndexIsTaken := by
  refine ⟨fun s hm => ⟨next_station (if_pos hm), fun ht => next_station (if_pos ⟨hm, by rw [ht]; rfl⟩)⟩, fun s k => rfl,
    fun s k hm hi ht => next_station ?_, fun s n ht => ?_⟩
  · have hearing : s.station.hearing = true := by rcases hm with hm | hm <;> simp [Station.hearing, hm]
    have due : (s.station.ctl.burstTimer.any BurstWait.due) = true := by rcases ht with ht | ht <;> rw [ht] <;> rfl
    rw [Station.onChainOutBurst, if_pos ⟨hearing, due⟩, Station.k, hi]
    rfl
  · have early : ¬ (s.station.ctl.burstTimer.any BurstWait.due) = true := by rcases ht with ht | ht <;> rw [ht] <;> simp [BurstWait.due]
    exact next_station (if_neg fun h => early h.2)

/-! ## The end of learning (R57) -/

@[simp] theorem Station.postOwn_acc (s : Station) : s.postOwn.acc = s.acc := by
  unfold Station.postOwn
  split
  · rfl
  · unfold Station.settle
    dsimp only
    split
    · rfl
    · rw [Station.reportDrop_acc]

@[simp] theorem Station.withdrawPrompt_acc (s : Station) (b : Block) (n : Nat) : (s.withdrawPrompt b n).acc = s.acc := by
  unfold Station.withdrawPrompt
  repeat' split
  · exact s.leavePrompt_acc _ _
  · rfl
  · rfl

@[simp] theorem Station.clearRailBlocked_acc (s : Station) : s.clearRailBlocked.acc = s.acc := by
  unfold Station.clearRailBlocked
  dsimp only
  split
  · rw [Station.withdrawPrompt_acc]
  · rfl

@[simp] theorem Station.holdSpan_acc (s : Station) : s.holdSpan.acc = s.acc := by
  unfold Station.holdSpan
  dsimp only
  rw [Station.clearRailBlocked_acc, Station.postOwn_acc]
  unfold Station.parkReservation Station.withdrawSpan
  dsimp only
  split <;> rfl

@[simp] theorem Station.sendStop_acc (s : Station) (c : StopCauses) : (s.sendStop c).acc = s.acc := by
  unfold Station.sendStop
  split <;> rfl

theorem Station.setLatch_acc (s : Station) : s.setLatch.acc = s.acc := by
  rw [Station.setLatch, Station.holdSpan_acc, Station.sendStop_acc]

@[simp] theorem Station.sampleDoor_acc (s : Station) : s.sampleDoor.acc = s.acc := by
  unfold Station.sampleDoor
  split
  · exact s.setLatch_acc
  · rfl

@[simp] theorem Station.sampleDoor_basis (s : Station) : s.sampleDoor.basis = s.basis := by
  unfold Station.sampleDoor
  split
  · exact s.setLatch_basis
  · rfl

theorem Station.storeLostCall_of_clear {s : Station} (h : s.store.clearedMemory = false) : s.storeLostCall = s := by
  rw [Station.storeLostCall, if_neg (by simp [h])]

theorem Station.storeLostCall_of_set {s : Station} (h : s.store.clearedMemory = true) :
    s.storeLostCall = { s with store := { s.store with clearedMemory := false } }.callFor .storeLost := if_pos h

/-- The memory of a store clear is used up (R174). -/
theorem Station.storeLostCall_basis (s : Station) :
    s.storeLostCall.basis = { s.basis with store := { s.store with clearedMemory := false } } := by
  cases h : s.store.clearedMemory
  · rw [Station.storeLostCall_of_clear h, ← h]
    rfl
  · rw [Station.storeLostCall_of_set h, Station.callFor_basis]
    rfl

theorem Station.enterReady_basis (s : Station) : s.enterReady.finish.basis = { s.basis with
    ctl := { s.ctl with mode := .ready, learningTimer := none }, store := { s.store with clearedMemory := false } } := by
  rw [Station.finish_basis, Station.enterReady, Station.rescanPoint_basis, Station.storeLostCall_basis]
  have sampled := Station.sampleDoor_basis { s with ctl := { s.ctl with mode := .ready, learningTimer := none } }
  rw [sampled, show Station.store _ = _ from congrArg Base.store sampled]
  rfl

/-- STOP for the door goes to a command in flight for which none was issued (R128). -/
theorem Station.sendStop_door {s : Station} {f : InFlight} (hf : s.seq.cmd = some f) (hc : f.causes = none) (hs : s.seq.stop = none) :
    s.sendStop ⟨true, false, false⟩ = { s with seq := { s.seq with
      cmd := some { f with causes := some ⟨true, false, false⟩ }, stop := some ⟨100, f.cmd, f.purpose⟩ } } := by
  simp only [Station.sendStop, hf, hc, hs]
  rfl

theorem Station.sendStop_of_none {s : Station} (h : s.seq.cmd = none) (c : StopCauses) : s.sendStop c = s := by
  simp only [Station.sendStop, h]

theorem exec_learningPeriodEnd {s : State} (hm : s.station.ctl.mode = .learning) (ht : s.station.ctl.learningTimer = some 0) :
    exec .learningPeriodEnd s = .next { s with station := s.station.enterReady.finish } :=
  next_station (if_pos ⟨hm, by rw [ht]; rfl⟩)

/-- Settles O18. -/
theorem learningEndsInReady : Obligations.LearningEndsInReady := by
  intro s hm ht c
  rw [exec_learningPeriodEnd hm ht]
  have basis := s.station.enterReady_basis
  refine ⟨⟨_, rfl, congrArg Base.ctl basis, congrArg Base.pins basis, congrArg Base.rxq basis, congrArg Base.store basis⟩, ?_⟩
  intro x latched ends y hy z q noted
  have sampled : x.sampleDoor = y := by
    rcases hy with ⟨hd, rfl⟩ | ⟨hd, hc, rfl⟩ | ⟨f, hd, hf, hc, hs, rfl⟩
    · exact if_neg (by simp [hd])
    · exact (if_pos hd).trans (congrArg Station.holdSpan (Station.sendStop_of_none (s := latched) hc _))
    · exact (if_pos hd).trans (congrArg Station.holdSpan (Station.sendStop_door (s := latched) hf hc hs))
  have memory : y.store = x.store := sampled ▸ congrArg Base.store x.sampleDoor_basis
  have records : z.accStatus .storeLost = x.accStatus .storeLost := by
    have acc : z.acc = x.acc := (congrArg Station.acc sampled).symm.trans x.sampleDoor_acc
    rw [Station.accStatus, acc]
    rfl
  have ready (w : Station) (hw : y.storeLostCall = w) : s.station.enterReady.finish = (ends w).station := by
    rw [Station.enterReady, ← hw, ← sampled]
    rfl
  have raised : z.raiseSubject .storeLost = noted (AccStatus.ofRaise q.2) := z.raiseSubject_eq .storeLost
  have lost (h : x.store.clearedMemory = true) : y.storeLostCall = z.callFor .storeLost :=
    Station.storeLostCall_of_set (memory ▸ h)
  refine ⟨fun h => next_station (ready y (Station.storeLostCall_of_clear (memory ▸ h))), fun h => ⟨fun hs => ?_, fun hs => ⟨fun n hn => ?_, fun hn => ?_⟩⟩⟩
  · exact next_station (ready z ((lost h).trans (Station.callFor_of_ne (records ▸ hs))))
  · refine next_station (ready _ ((lost h).trans ((Station.callFor_of_eq (records.trans hs)).trans ?_)))
    rw [raised, hn]
    rfl
  · refine next_station (ready _ ((lost h).trans ((Station.callFor_of_eq (records.trans hs)).trans ?_)))
    rw [raised, hn]
    rfl

end Sys2Proof.Machine
end

section
/-! The time base (R41) with the raises made again at an advance (R144, R149, R151, R189), and STATUS and RESTART (R38, R60, R61). -/

namespace Sys2Proof.Machine

/-! ## One tick event (R41) -/

theorem countDown_eq_map (t : Option Nat) : countDown t = t.map (· - 1) := by cases t <;> rfl

/-- The station with every timer one tick further, at a time of Station Control. -/
def Station.tickedTo (s : Station) (tick second : Nat) : Station :=
  { s.tickTimers with ctl := { s.tickTimers.ctl with tick := tick, second := second } }

theorem Station.onTick_below {s : Station} (hv : s.pins.vdd = true) (hm : s.ctl.mode ≠ .reset) (ht : s.ctl.tick < 99) :
    s.onTick = (s.tickedTo (s.ctl.tick + 1) s.ctl.second).finish := by
  have counting : s.counting = true := by simp [Station.counting, hv, hm]
  rw [Station.onTick, if_pos counting, if_neg (by omega)]
  rfl

theorem Station.secondsAdvance_eq {s : Station} : s.secondsAdvance =
    ((s.tickedTo 0 (satAdd 4294967295 s.ctl.second 1)).advanceDrops.retryRaises.raiseWanted s.wantedRaises).finish := rfl

theorem Station.onTick_wrap {s : Station} (hv : s.pins.vdd = true) (hm : s.ctl.mode ≠ .reset) (ht : s.ctl.tick = 99) :
    s.onTick = s.secondsAdvance ∧ s.onSecondsAdvance = s.secondsAdvance := by
  have counting : s.counting = true := by simp [Station.counting, hv, hm]
  exact ⟨by rw [Station.onTick, if_pos counting, if_pos (by omega)], by simp [Station.onSecondsAdvance, counting, ht]⟩

/-- Settles O19. -/
theorem timeBaseCounts : Obligations.TimeBaseCounts := by
  unfold Obligations.TimeBaseCounts
  intro burst ticked due
  have hburst : burst = BurstWait.tick := funext fun w => by cases w <;> rfl
  have hdue : due = DropMark.advance := funext fun m => by cases m <;> rfl
  have hcount : countDown = Option.map (· - 1) := funext countDown_eq_map
  have hticked (x : Station) (tick second : Nat) : ticked x tick second = x.tickedTo tick second := by
    simp only [ticked, hburst, ← hcount]
    rfl
  refine ⟨fun s hv hm ht => ?_, fun s c hc hv hm ht => ?_, fun s => ?_, fun s => ?_⟩
  · exact next_station ((Station.onTick_below hv hm ht).trans (congrArg _ (hticked _ _ _).symm))
  · intro y z t
    have advanced : z = y.advanceDrops := by simp only [z, hdue]; rfl
    have ended : s.station.secondsAdvance = t := by
      rw [Station.secondsAdvance_eq, ← hticked]
      exact congrArg (fun w : Station => (w.retryRaises.raiseWanted s.station.wantedRaises).finish) advanced.symm
    have basis : t.basis = (s.station.tickedTo 0 (min (s.station.ctl.second + 1) 4294967295)).basis := by
      rw [← ended, Station.secondsAdvance_eq, Station.finish_basis, Station.raiseWanted_basis, Station.retryRaises_basis,
        Station.advanceDrops_basis]
      rfl
    have row : exec c s = .next { s with station := t } := by
      obtain ⟨htick, hsecond⟩ := Station.onTick_wrap hv hm ht
      rcases hc with rfl | rfl
      · exact next_station (htick.trans ended)
      · exact next_station (hsecond.trans ended)
    refine ⟨row, ?_, congrArg Base.store basis, congrArg Base.pins basis, congrArg Base.rxq basis, congrArg Base.lineBusy basis,
      congrArg Base.receiver basis⟩
    rw [show t.ctl = _ from congrArg Base.ctl basis]
    exact congrArg Station.ctl (hticked _ _ _).symm
  · intro fault door hand
    have hfault : (if s.seq.fault.any fun f => f.raiseOwed then s.raiseFault else s) = fault s := by
      simp only [fault, Station.raiseFault]
      cases h : s.seq.fault with
      | none => rfl
      | some f => rfl
    rw [← hfault]
    rfl
  · refine ⟨fun h => if_neg h, fun h => (if_pos h).trans ?_, rfl, fun x rest => ?_⟩
    · congr 1
    · intro q
      have subject : s.raiseSubject x = (s.raise x.kind x.fields).1.setAcc x fun r =>
          { r with status := AccStatus.ofRaise (s.raise x.kind x.fields).2 } := s.raiseSubject_eq x
      have hq : s.raise x.kind x.fields = q := by cases x <;> rfl
      rw [Station.raiseWanted, List.foldl_cons, subject, hq]
      rfl

/-! ## STATUS and RESTART (R38, R60, R61) -/

/-- The first eight bytes of a STATUS, before the peer reports (R38). -/
def Station.statusHead (s : Station) : List Byte :=
  [byteOf s.ctl.mode.code, flagByte s.heldCond s.faulted false false false, byteOf s.ctl.offline.code,
   byteOf (s.ctl.index.getD 255), byteOf s.ctl.cause.code, byteOf s.req.owned.length, byteOf s.req.table.length,
   byteOf s.prm.list.length]

/-- The bytes of a STATUS after the peer reports (R38). -/
def Station.statusTail (s : Station) : List Byte :=
  s.liu.counters.bytes ++ [byteOf s.store.flags.nibble] ++ bytes16 s.store.occLost ++ bytes16 s.store.occEstimated ++
    bytes16 s.store.losses

theorem Station.statusBody_eq (s : Station) :
    s.statusBody = s.statusHead ++ ((List.range 8).map (fun i => byteOf (s.peerReport i)) ++ s.statusTail) := by
  simp only [Station.statusBody, Station.statusHead, Station.statusTail, List.append_assoc]

theorem Station.statusBody_report (s : Station) {i : Nat} (h : i < 8) : s.statusBody[8 + i]? = some (byteOf (s.peerReport i)) := by
  have length : s.statusHead.length = 8 := rfl
  rw [s.statusBody_eq, List.getElem?_append_right (by omega), length, Nat.add_sub_cancel_left, List.getElem?_append_left (by simpa)]
  simp [h]

theorem Station.statusBody_drop (s : Station) : s.statusBody.drop 16 = s.statusTail := by
  rw [s.statusBody_eq, ← List.append_assoc]
  exact List.drop_left' (by simp [Station.statusHead])

theorem Station.statusTail_length (s : Station) : s.statusTail.length = 25 := by
  simp [Station.statusTail, LineCounters.bytes, bytes16]

theorem Station.statusBody_length (s : Station) : s.statusBody.length = 41 := by
  rw [s.statusBody_eq, List.length_append, List.length_append, s.statusTail_length]
  simp [Station.statusHead]

theorem PeerSpan.report_eq (p : PeerSpan) : p.report = if p.stale then 5 else 2 + p.kind.code.toNat := by
  unfold PeerSpan.report
  cases p.kind <;> rfl

theorem flagByte_two (a b : Bool) : flagByte a b false false false = byteOf (a.toNat + 2 * b.toNat) := rfl

/-- A station held in RESET owes nothing at the end of an event, and has no frame to hand out. -/
theorem Station.hold_finish (s : Station) (c : ResetCause) : (s.hold c).finish.dequeue = s.hold c := rfl

theorem Station.addressed_own (s : Station) (own : Bool) (src : Nat) : s.addressed ⟨own, src, s.cv.address⟩ = true := beq_self_eq_true _

/-- A frame handed out to its blocks: the row's next state. -/
theorem next_hear {s : State} {h : Heard} {m : Msg} {rest : List RxEntry} (hs : s.station.Hands h m rest) {code : Byte}
    (hc : m.code = code) {every : Bool} (he : every = true ∨ s.station.hearing = true) {act : Heard → Msg → Station → Station}
    {y : Station} (hy : act h m s.station = y) :
    (s.act fun x => x.hear code every act) = .next { s with station := y.finish.dequeue } := by
  rw [State.act_eq, Station.hear_of_hands hs hc every act he, hy]

/-- A frame given to no block in the station's state: an own echo is reported still (R52). -/
theorem next_hear_deaf {s : State} {h : Heard} {m : Msg} {rest : List RxEntry} (hs : s.station.Hands h m rest) {code : Byte}
    (hc : m.code = code) (he : ¬ s.station.hearing = true) (act : Heard → Msg → Station → Station) :
    (s.act fun x => x.hear code false act) =
      .next { s with station := (if h.own then s.station.reportEcho m else s.station).finish.dequeue } := by
  obtain ⟨hr, f, hq, ha, -, -⟩ := hs
  have taken : s.station.takeFrame false act ⟨f, h.own⟩ = if h.own then s.station.reportEcho m else s.station := by
    simp [Station.takeFrame, ha, he]
  rw [State.act_eq, Station.hear, hq]
  simp [hr, accept_code ha, hc, taken]

/-- Settles O20. -/
theorem statusAndRestart : Obligations.StatusAndRestart := by
  refine ⟨fun s own src rest => ⟨fun h => ?_, fun h => ?_⟩,
    fun s h rest => ⟨fun b hb => next_hear hb rfl (.inl rfl) rfl, fun m hm => ?_⟩, fun s => ?_⟩
  · exact next_hear h rfl (.inl rfl) (if_pos (s.station.addressed_own own src))
  · exact (next_hear h rfl (.inl rfl) (act := Station.takeRestartFrame) (if_pos (s.station.addressed_own own src))).trans
      (next_station (s.station.hold_finish .restart))
  · by_cases hearing : s.station.hearing = true
    · exact next_hear hm rfl (.inr hearing) rfl
    · refine (next_hear_deaf hm rfl hearing _).trans (next_station ?_)
      split <;> rfl
  · intro c
    have report {i : Nat} (hi : i < 8) := s.statusBody_report hi
    refine ⟨s.statusBody_length, ?_, fun hn i hi => ?_, fun k hk => ⟨fun hlt => ?_, fun i p hi hne hp => ?_, fun i hi hne hp => ?_⟩, ?_, ?_, ?_⟩
    · cases hi : s.ctl.index <;> simp [s.statusBody_eq, Station.statusHead, flagByte_two, hi]
      rfl
    · rw [report hi, Station.peerReport, hn]
      rfl
    · rw [report hlt, Station.peerReport, hk]
      simp
      rfl
    · rw [report hi, Station.peerReport, hk]
      simp only [hne, if_false, hp, p.report_eq]
    · rw [report hi, Station.peerReport, hk]
      simp only [hne, if_false, hp]
      rfl
    · rw [s.statusBody_drop]
      rfl
    · have tail := congrArg (fun l => l[18]?) s.statusBody_drop
      simp only [List.getElem?_drop] at tail
      exact tail
    · have tail := congrArg (List.drop 19) s.statusBody_drop
      rw [List.drop_drop] at tail
      exact tail

end Sys2Proof.Machine
end

section
/-! SUPPORT and PROOFS. Offer costs and the orders of offers and claims (O22, O30). -/

namespace Sys2Proof.Machine

/-! ## Offer costs (R66 to R73) -/

/-- Both ends of the stretch over three positions lie inside the band exactly where the three do (R68). -/
theorem ConfigValues.inBand_stretch (c : ConfigValues) (k x y z : Nat) :
    (c.inBand k (min x (min y z)) = true ∧ c.inBand k (max x (max y z)) = true) ↔
      c.inBand k x = true ∧ c.inBand k y = true ∧ c.inBand k z = true := by
  simp only [ConfigValues.inBand, Bool.and_eq_true, decide_eq_true_eq]
  omega

/-- The offer cost is the sum held into 1 to 65,534 (R73). -/
theorem holdCost_eq (n : Nat) : holdCost n = max 1 (min n 65534) := by
  unfold holdCost
  split <;> omega

/-- A call has a cost exactly where there is a committed end, the four positions lie inside the band and every displaced peer can be
displaced (R68, R70 to R73). -/
theorem Station.cost_eq_some {s : Station} {call : Call} {c b : Nat} :
    s.cost call = some (c, b) ↔ ∃ e pen, s.committedEnd = some e ∧
      (∀ x ∈ [e, (s.cv.sourceOf call).pos, (s.cv.targetOf call).pos, s.cv.windowPos], s.cv.inBand s.k x = true) ∧
      s.penalties (min e (min (s.cv.sourceOf call).pos (s.cv.targetOf call).pos))
        (max e (max (s.cv.sourceOf call).pos (s.cv.targetOf call).pos)) s.span.peers = some pen ∧
      b = s.base e (s.cv.sourceOf call).pos (s.cv.targetOf call).pos ∧ c = max 1 (min (b + s.backlog + pen) 65534) := by
  unfold Station.cost
  cases hend : s.committedEnd with
  | none => simp
  | some e =>
    have hband := s.cv.inBand_stretch s.k e (s.cv.sourceOf call).pos (s.cv.targetOf call).pos
    simp only [Bool.and_eq_true, hband, Option.some.injEq, exists_eq_left', exists_and_left, List.forall_mem_cons,
      List.not_mem_nil, false_imp_iff, implies_true, and_true]
    split
    next hall =>
      obtain ⟨⟨he, hs, ht⟩, hw⟩ := hall
      cases s.penalties (min e (min (s.cv.sourceOf call).pos (s.cv.targetOf call).pos))
        (max e (max (s.cv.sourceOf call).pos (s.cv.targetOf call).pos)) s.span.peers with
      | none => simp
      | some pen =>
        simp only [Option.some.injEq, Prod.mk.injEq, holdCost_eq, he, hs, ht, hw, true_and, exists_eq_left']
        exact ⟨fun ⟨hc, hb⟩ => ⟨hb.symm, hb ▸ hc.symm⟩, fun ⟨hb, hc⟩ => ⟨hb ▸ hc.symm, hb.symm⟩⟩
    next hnot =>
      simp only [reduceCtorEq, false_iff]
      rintro ⟨⟨he, hs, ht, hw⟩, -⟩
      exact hnot ⟨⟨he, hs, ht⟩, hw⟩

/-- A call without the conditions of a cost has none. -/
theorem Station.cost_eq_none {s : Station} {call : Call} (h : ∀ c b, s.cost call ≠ some (c, b)) : s.cost call = none :=
  Option.eq_none_iff_forall_ne_some.2 fun ⟨c, b⟩ => h c b

/-- What one peer adds to the penalties (R72). -/
theorem Station.penalties_cons (s : Station) (lo hi : Nat) (p : PeerSpan) (ps : List PeerSpan) :
    s.penalties lo hi (p :: ps) =
      if s.displaces lo hi p = false then s.penalties lo hi ps
      else if p.stale = true ∨ p.kind = .fixed then none
      else (s.penalties lo hi ps).map (· + if p.kind = .parked then s.cv.N else s.cv.B) := by
  rw [Station.penalties]
  cases s.penalties lo hi ps <;> cases s.displaces lo hi p <;> cases p.stale <;> cases p.kind <;> rfl

/-- A peer to the east is displaced where its centre lies short of its share of pitches beyond the stretch (R72). -/
theorem Station.displaces_east {s : Station} {p : PeerSpan} (lo hi : Nat) (h : s.k < p.index) :
    s.displaces lo hi p = true ↔ (p.lo + p.hi) / 2 < hi + (p.index - s.k) * s.cv.D := by
  rw [Station.displaces, if_pos h]
  exact decide_eq_true_iff

/-- A peer to the west is displaced where its centre lies beyond its share of pitches before the stretch (R72). -/
theorem Station.displaces_west {s : Station} {p : PeerSpan} (lo hi : Nat) (h : p.index < s.k) :
    s.displaces lo hi p = true ↔
      (s.k - p.index) * s.cv.D ≤ lo ∧ lo - (s.k - p.index) * s.cv.D < (p.lo + p.hi) / 2 := by
  have hnot : ¬ s.k < p.index := by omega
  rw [Station.displaces, if_neg hnot, if_pos h, Bool.and_eq_true, decide_eq_true_iff, decide_eq_true_iff, centre]
  omega

/-- Settles O22. -/
theorem costOfACall : Obligations.CostOfACall := by
  refine ⟨fun s call => ⟨?_, ?_, ?_, ?_, ?_⟩, fun s lo hi p ps => ⟨rfl, ?_, ?_, ?_, ?_, ?_, ?_⟩, fun s => ⟨?_, ?_, ?_, ?_, ?_⟩, ?_⟩
  · intro c b h
    obtain ⟨e, pen, hend, hband, hpen, hb, hc⟩ := Station.cost_eq_some.1 h
    exact ⟨e, pen, hend, hb, hc, by omega, by omega, hband, hpen⟩
  · intro e pen hend hband hpen
    exact Station.cost_eq_some.2 ⟨e, pen, hend, hband, hpen, rfl, rfl⟩
  · intro e hend hpen
    refine Station.cost_eq_none fun c b h => ?_
    obtain ⟨e', pen, hend', -, hpen', -⟩ := Station.cost_eq_some.1 h
    cases hend.symm.trans hend'
    exact absurd (hpen.symm.trans hpen') nofun
  · intro hend
    refine Station.cost_eq_none fun c b h => ?_
    obtain ⟨e', -, hend', -⟩ := Station.cost_eq_some.1 h
    exact absurd (hend.symm.trans hend') nofun
  · intro e hend x hx hout
    refine Station.cost_eq_none fun c b h => ?_
    obtain ⟨e', -, hend', hband, -⟩ := Station.cost_eq_some.1 h
    cases hend.symm.trans hend'
    exact absurd ((hband x hx).symm.trans hout) nofun
  · intro hd
    rw [Station.penalties_cons, if_pos hd]
  · intro hd hfixed
    rw [Station.penalties_cons, if_neg (by simp [hd]), if_pos hfixed]
  · intro hd hs hk
    rw [Station.penalties_cons, if_neg (by simp [hd]), if_neg (by simp [hs, hk]), if_pos hk]
  · intro hd hs hk
    rw [Station.penalties_cons, if_neg (by simp [hd]), if_neg (by simp [hs, hk]), if_neg (by simp [hk])]
  · exact Station.displaces_east lo hi
  · exact Station.displaces_west lo hi
  · intro t e hlast hfind
    simp [Station.committedEnd, hlast, hfind]
  · intro m howned hres hmove
    simp [Station.committedEnd, howned, hres, hmove]
  · intro howned hres
    simp only [Station.committedEnd, howned, List.getLast?_nil]
    cases hr : s.span.reservation with
    | granted => exact absurd hr hres
    | parked | waiting | asking => rfl
  · intro h
    simp [Station.backlog, h]
  · intro t e est hact hfind hest
    simp [Station.backlog, hact, hfind, hest]
  · intro c call at_
    constructor
    · intro hk
      cases hc : call.kind with
      | demount => exact absurd hc hk
      | mount | clean => exact ⟨by simp [ConfigValues.targetOf, hc], fun p hp => by simp [ConfigValues.sourceOf, hc, hp]; rfl⟩
    · intro hk
      exact ⟨by simp [ConfigValues.sourceOf, hk], fun p hp => by simp [ConfigValues.targetOf, hk, hp]; rfl⟩

/-! ## The orders of offers and claims (R74, R88, R89) -/

/-- One offer beats another with a lower cost, or with the lower index at equal costs (R74). -/
theorem Offer.beats_iff (a b : Offer) : a.beats b = true ↔ a.cost < b.cost ∨ (a.cost = b.cost ∧ a.index < b.index) := by
  simp [Offer.beats]

theorem Offer.not_beats_iff (a b : Offer) : a.beats b = false ↔ b.cost < a.cost ∨ (b.cost = a.cost ∧ b.index ≤ a.index) := by
  rw [← Bool.not_eq_true, Offer.beats_iff]
  omega

/-- Of two offers with different indexes exactly one beats the other (R74). -/
theorem Offer.beats_eq_not {a b : Offer} (h : a.index ≠ b.index) : a.beats b = !b.beats a := by
  rw [Bool.eq_iff_iff, Bool.not_eq_true', Offer.beats_iff, Offer.not_beats_iff]
  omega

/-- One claim beats another: a reassert a first TAKE, of two reasserts the loaded one or else the lower index, of two first TAKEs the better
offer (R88). -/
theorem Claim.beats_iff (a b : Claim) : a.beats b = true ↔
    (a.cost = 0 ∧ b.cost ≠ 0) ∨
    (a.cost = 0 ∧ b.cost = 0 ∧ ((a.loaded = true ∧ b.loaded = false) ∨ (a.loaded = b.loaded ∧ a.index < b.index))) ∨
    (a.cost ≠ 0 ∧ b.cost ≠ 0 ∧ (a.cost < b.cost ∨ (a.cost = b.cost ∧ a.index < b.index))) := by
  unfold Claim.beats
  by_cases ha : a.cost = 0
  · by_cases hb : b.cost = 0
    · cases a.loaded <;> cases b.loaded <;> simp [ha, hb]
    · simp [ha, hb]
  · by_cases hb : b.cost = 0
    · simp [ha, hb]
    · simp [ha, hb, Offer.beats_iff]

/-- Settles O30. -/
theorem offerAndClaimOrder : Obligations.OfferAndClaimOrder := by
  refine ⟨fun a b => ⟨Offer.beats_iff a b, ?_, ?_⟩, ?_, ?_, ?_, ?_, ?_, ?_⟩
  · rw [Offer.not_beats_iff]; omega
  · intro hne
    have : a.cost ≠ b.cost ∨ a.index ≠ b.index := by
      by_contra h
      push Not at h
      exact hne (by cases a; cases b; simp_all)
    rw [Offer.beats_iff, Offer.not_beats_iff]
    omega
  · intro a b ha hb
    exact ⟨(Claim.beats_iff a b).2 (.inl ⟨ha, hb⟩), by simp [Claim.beats, ha, hb]⟩
  · intro a b ha hb
    rw [Claim.beats_reassert ha, if_pos hb]
    split <;> simp
  · intro a b ha hb
    rw [Claim.beats_first ha, if_neg hb]
  · intro a b hne
    rw [← Bool.not_eq_true, Claim.beats_iff, Claim.beats_iff]
    cases a.loaded <;> cases b.loaded <;> simp <;> omega
  · intro a b c
    rw [Claim.beats_iff, Claim.beats_iff, Claim.beats_iff]
    cases a.loaded <;> cases b.loaded <;> cases c.loaded <;> simp <;> omega
  · intro e f o p j k ho hp hne
    simp only [Entry.beatsRival, ho, hp, Option.any_some]
    exact Offer.beats_eq_not hne

end Sys2Proof.Machine
end

section
/-! SUPPORT and PROOFS. The request table's entries under the events of chapter 5: calls, offers, windows, takes and holds
(O23 to O27). -/

namespace Sys2Proof.Machine

/-! ## One entry to a tag (R77) -/

/-- In a table that holds no tag twice the entry found is the only one of its tag. -/
theorem RequestUnit.Ok.eq_of_tag {r : RequestUnit} (ok : r.Ok) {t : Tag} {e a : Entry} (h : r.find t = some e) (ha : a ∈ r.table)
    (ht : a.call.tag = t) : a = e :=
  List.inj_on_of_nodup_map ok.2 ha (RequestUnit.mem_of_find h) (ht.trans (RequestUnit.tag_of_find h).symm)

/-- Two changes that agree on the entry of a tag make the same table. -/
theorem Station.updateEntry_congr {s : Station} (ok : s.req.Ok) {t : Tag} {e : Entry} (h : s.req.find t = some e) {f g : Entry → Entry}
    (hfg : f e = g e) : s.updateEntry t f = s.updateEntry t g := by
  have same : s.req.table.map (fun a => if a.call.tag = t then f a else a) = s.req.table.map fun a => if a.call.tag = t then g a else a := by
    refine List.map_congr_left fun a ha => ?_
    split
    next ht => rw [ok.eq_of_tag h ha ht, hfg]
    next => rfl
  unfold Station.updateEntry RequestUnit.update
  rw [same]

/-- Two changes of one entry after the other. -/
theorem Station.updateEntry_updateEntry (s : Station) (t : Tag) (f g : Entry → Entry) (hf : ∀ e, (f e).call = e.call) :
    (s.updateEntry t f).updateEntry t g = s.updateEntry t fun e => g (f e) := by
  have same : (s.req.table.map fun a => if a.call.tag = t then f a else a).map (fun a => if a.call.tag = t then g a else a) =
      s.req.table.map fun a => if a.call.tag = t then g (f a) else a := by
    rw [List.map_map]
    refine List.map_congr_left fun a _ => ?_
    by_cases ht : a.call.tag = t <;> simp [ht, hf]
  unfold Station.updateEntry RequestUnit.update
  dsimp only
  rw [same]

/-- A tag that only the last entry has: the change is made there. -/
theorem map_update_last {l : List Entry} {e : Entry} (h : ∀ o ∈ l, o.call.tag ≠ e.call.tag) (f : Entry → Entry) :
    (l ++ [e]).map (fun a => if a.call.tag = e.call.tag then f a else a) = l ++ [f e] := by
  rw [List.map_append, List.map_congr_left (g := id) fun o ho => by simp [h o ho]]
  simp

/-! ## Calls (R79, R80) -/

theorem Station.mayOffer_iff (s : Station) : s.mayOffer = true ↔
    s.ctl.mode = .ready ∧ s.seq.doorLatch = false ∧ s.seq.fault = none ∧ 1 ≤ s.req.capacity := by
  simp [Station.mayOffer, Station.fit, Station.heldCond, Station.faulted, and_assoc, Nat.succ_le_iff]

theorem Station.offerOn_of_not {s : Station} {e : Entry} (h : ¬ s.mayOffer = true ∨ s.cost e.call = none) : s.offerOn e = s := by
  unfold Station.offerOn
  split
  next may => rw [h.resolve_left (not_not_intro may)]
  next => rfl

theorem Station.offerOn_of_cost {s : Station} {e : Entry} {c b : Nat} (may : s.mayOffer = true) (h : s.cost e.call = some (c, b)) :
    s.offerOn e = s.postOffer e.call.tag c b := by
  rw [Station.offerOn, if_pos may, h]

/-- A new call is recorded at the tail alone, where the station cannot offer on it (R79). -/
theorem Station.record_waits {s : Station} {call : Call}
    (h : ¬ Station.mayOffer { s with req := { s.req with table := s.req.table ++ [Entry.new call s.now] } } = true ∨
      Station.cost { s with req := { s.req with table := s.req.table ++ [Entry.new call s.now] } } call = none) :
    s.record call = { s with req := { s.req with table := s.req.table ++ [Entry.new call s.now] } } :=
  Station.offerOn_of_not h

/-- A new call that the station can reach is recorded with its OFFER posted (R79, R81). -/
theorem Station.record_offers {s : Station} {call : Call} {c b : Nat} (hnew : ∀ o ∈ s.req.table, o.call.tag ≠ call.tag)
    (may : Station.mayOffer { s with req := { s.req with table := s.req.table ++ [Entry.new call s.now] } } = true)
    (h : Station.cost { s with req := { s.req with table := s.req.table ++ [Entry.new call s.now] } } call = some (c, b)) :
    s.record call = Station.post { s with req := { s.req with
      table := s.req.table ++ [{ Entry.new call s.now with state := .bidding, ownOffer := some ⟨c, b, false⟩ }] } } .request 63
        (.offer call.tag c s.k) := by
  refine (Station.offerOn_of_cost (e := Entry.new call s.now) may h).trans ?_
  unfold Station.postOffer Station.updateEntry RequestUnit.update
  dsimp only
  rw [map_update_last (e := Entry.new call s.now) hnew]
  rfl

theorem RequestUnit.find_isSome {r : RequestUnit} {t : Tag} : (r.find t).isSome = true ↔ ∃ o ∈ r.table, o.call.tag = t := by
  simp [RequestUnit.find]

theorem Station.callHeard_known {s : Station} {call : Call} (h : ∃ o ∈ s.req.table, o.call.tag = call.tag) : s.callHeard call = s :=
  if_pos (RequestUnit.find_isSome.2 h)

theorem Station.callHeard_new {s : Station} {call : Call} (h : ∀ o ∈ s.req.table, o.call.tag ≠ call.tag) :
    s.callHeard call = if s.req.table.length ≤ 15 then s.record call else
      match s.req.oldestPeer with
      | some e => (s.removeEntry e.call.tag).record call
      | none => s.countCallDropped :=
  if_neg (by rw [RequestUnit.find_isSome]; simpa using h)

/-- The oldest PEER entry is the first one (R80). -/
theorem RequestUnit.oldestPeer_between {r : RequestUnit} {front back : List Entry} {p : Entry} (h : r.table = front ++ p :: back)
    (hfront : ∀ o ∈ front, o.state ≠ .peer) (hp : p.state = .peer) : r.oldestPeer = some p := by
  rw [RequestUnit.oldestPeer, h, List.find?_append, List.find?_eq_none.2 (by simpa using hfront)]
  simp [hp]

/-- An entry without a prompt and without an own offer is removed, and no more than that (R93). -/
theorem Station.removeEntry_plain {s : Station} {t : Tag} {e : Entry} (h : s.req.find t = some e) (hout : e.outstanding = false)
    (hprompt : e.prompt = none) :
    s.removeEntry t = { s with req := { s.req with table := s.req.table.filter fun e => e.call.tag != t } } := by
  have quiet : s.endOffer t = s := by simp [Station.endOffer, RequestUnit.offerOut, h, hout]
  have none_stands : s.withdrawWaiting t = s := Station.withdrawWaiting_of_none fun a ha => by cases h.symm.trans ha; exact hprompt
  unfold Station.removeEntry
  rw [quiet, none_stands]

theorem Station.removeEntry_between {s : Station} {front back : List Entry} {p : Entry} (h : s.req.table = front ++ p :: back)
    (hp : p.state = .peer) (hprompt : p.prompt = none) (hone : ∀ o ∈ front ++ back, o.call.tag ≠ p.call.tag) :
    s.removeEntry p.call.tag = { s with req := { s.req with table := front ++ back } } := by
  have hfront : ∀ o ∈ front, o.call.tag ≠ p.call.tag := fun o ho => hone o (List.mem_append_left _ ho)
  have hback : ∀ o ∈ back, o.call.tag ≠ p.call.tag := fun o ho => hone o (List.mem_append_right _ ho)
  have found : s.req.find p.call.tag = some p := by
    rw [RequestUnit.find, h, List.find?_append, List.find?_eq_none.2 (by simpa using hfront)]
    simp
  have left : (front ++ p :: back).filter (fun e => e.call.tag != p.call.tag) = front ++ back := by
    rw [List.filter_append, List.filter_cons_of_neg (by simp), List.filter_eq_self.2 (by simpa using hfront),
      List.filter_eq_self.2 (by simpa using hback)]
  rw [Station.removeEntry_plain found (by simp [Entry.outstanding, hp]) hprompt, h, left]

/-- The row of a call is the one of its kind. -/
theorem exec_call {s : State} {h : Heard} {call : Call} {rest : List RxEntry} (hs : s.station.Hands h (.call call) rest)
    (hm : s.station.hearing = true) :
    exec (if call.kind = .demount then Instr.demountCall else Instr.mountCall) s =
      .next { s with station := (s.station.callHeard call).finish.dequeue } := by
  by_cases hk : call.kind = .demount
  · rw [if_pos hk]
    exact next_hear hs (by simp [Msg.code, hk]) (.inr hm) (act := Station.takeCallFrame) rfl
  · rw [if_neg hk]
    exact next_hear hs (by simp [Msg.code, hk]) (.inr hm) (act := Station.takeCallFrame) rfl

theorem hearing_of_mode {s : Station} (h : s.ctl.mode = .learning ∨ s.ctl.mode = .ready) : s.hearing = true := by
  rcases h with h | h <;> simp [Station.hearing, h]

/-- Settles O23. -/
theorem callIsRecorded : Obligations.CallIsRecorded := by
  intro s h call rest hs hm x row e y may
  have row_eq := exec_call hs (hearing_of_mode hm)
  have may_iff : may ↔ y.mayOffer = true := (Station.mayOffer_iff y).symm
  refine ⟨fun known => ?_, fun hnew => ⟨fun hroom hnot => ?_, fun cost base hroom hmay hcost => ?_, fun hfull hpeers => ?_,
    fun front p back hfull htable hfront hp hprompt hone => ?_⟩⟩
  · rw [row_eq, Station.callHeard_known known]
  · rw [row_eq, Station.callHeard_new hnew, if_pos hroom, Station.record_waits (by rwa [may_iff] at hnot)]
    rfl
  · rw [row_eq, Station.callHeard_new hnew, if_pos hroom, Station.record_offers hnew (may_iff.1 hmay) hcost]
    rfl
  · have nopeer : s.station.req.oldestPeer = none := List.find?_eq_none.2 (by simpa using hpeers)
    rw [row_eq, Station.callHeard_new hnew, if_neg (by omega), nopeer]
  · intro z may
    have may_iff : may ↔ z.mayOffer = true := (Station.mayOffer_iff z).symm
    have hleft : ∀ o ∈ front ++ back, o.call.tag ≠ call.tag := fun o ho => hnew o (by
      rw [htable]; simp only [List.mem_append, List.mem_cons] at ho ⊢; tauto)
    have heard : s.station.callHeard call = Station.record { x with req := { x.req with table := front ++ back } } call := by
      rw [Station.callHeard_new hnew, if_neg (by omega), RequestUnit.oldestPeer_between htable hfront hp]
      exact congrArg (Station.record · call) (Station.removeEntry_between htable hp hprompt hone)
    refine ⟨fun hnot => ?_, fun cost base hmay hcost => ?_⟩
    · rw [row_eq, heard, Station.record_waits (by rwa [may_iff] at hnot)]
      rfl
    · rw [row_eq, heard, Station.record_offers hleft (may_iff.1 hmay) hcost]
      rfl

end Sys2Proof.Machine
end

section
/-! SUPPORT and PROOFS. Offers, windows, takes and holds (O24 to O27). -/

namespace Sys2Proof.Machine

/-! ## Offers (R82, R83, R90) -/

/-- The owner is stale exactly where a stale entry of the span table has its address (R82). -/
theorem Station.ownerStale_iff (s : Station) (e : Entry) :
    s.ownerStale e.owner = true ↔ ∃ w, e.owner = some w ∧ ∃ p ∈ s.span.peers, p.addr = w.addr ∧ p.stale = true := by
  cases h : e.owner <;> simp [Station.ownerStale]

/-- An OFFER opens the entry to bidding (R82): HEARD, or PEER with a stale owner. -/
def Station.opensTo (s : Station) (e : Entry) : Prop := e.state = .heard ∨ (e.state = .peer ∧ s.ownerStale e.owner = true)

/-- The entry as an OFFER opens it, a stale owner cleared (R82). -/
def Entry.openedTo (o : Offer) (e : Entry) : Entry := { e.opened o with owner := if e.state = .peer then none else e.owner }

theorem Station.offerHeard_none {s : Station} {own : Bool} {t : Tag} (h : s.req.find t = none) (o : Offer) :
    s.offerHeard own t o = s := by
  have echo : s.offerEcho t = s := by rw [Station.offerEcho, Station.updateEntry, RequestUnit.update_of_none _ h]
  cases own <;> simp [Station.offerHeard, echo, h]

/-- A peer's OFFER on an entry that it opens (R82, R83). -/
theorem Station.offerHeard_opens {s : Station} (ok : s.req.Ok) {t : Tag} {e : Entry} (h : s.req.find t = some e) (hopen : s.opensTo e)
    (o : Offer) : s.offerHeard false t o = (s.updateEntry t (Entry.openedTo o)).counterOffer t o := by
  rcases hopen with hs | ⟨hs, hstale⟩
  · have same : s.updateEntry t (Entry.opened o) = s.updateEntry t (Entry.openedTo o) :=
      Station.updateEntry_congr ok h (by simp [Entry.openedTo, Entry.opened, hs])
    simp [Station.offerHeard, h, hs, same]
  · have same : (s.updateEntry t fun e => { e.opened o with owner := none }) = s.updateEntry t (Entry.openedTo o) :=
      Station.updateEntry_congr ok h (by simp [Entry.openedTo, Entry.opened, hs])
    simp [Station.offerHeard, h, hs, hstale, same]

/-- The entry as the station's own OFFER is heard back, before anything else. -/
theorem Station.find_offerEcho {s : Station} {t : Tag} {e : Entry} (h : s.req.find t = some e) :
    (s.offerEcho t).req.find t = some e.markHeard :=
  RequestUnit.find_update _ (fun _ => rfl) h

/-- An own echo on an entry that it opens: no counter-offer (R82). -/
theorem Station.offerHeard_own_opens {s : Station} (ok : s.req.Ok) {t : Tag} {e : Entry} (h : s.req.find t = some e) (hopen : s.opensTo e)
    (o : Offer) : s.offerHeard true t o = s.updateEntry t fun e => e.markHeard.openedTo o := by
  have found := s.find_offerEcho h
  rcases hopen with hs | ⟨hs, hstale⟩
  · have hs' : e.markHeard.state = .heard := hs
    rw [Station.offerHeard]
    simp only [if_true, found, hs']
    refine (s.updateEntry_updateEntry t Entry.markHeard (Entry.opened o) fun _ => rfl).trans ?_
    exact Station.updateEntry_congr ok h (by simp [Entry.openedTo, Entry.opened, hs'])
  · have hs' : e.markHeard.state = .peer := hs
    have stale' : (s.offerEcho t).ownerStale e.markHeard.owner = true := hstale
    rw [Station.offerHeard]
    simp only [if_true, found, hs', stale']
    refine (s.updateEntry_updateEntry t Entry.markHeard (fun e => { e.opened o with owner := none }) fun _ => rfl).trans ?_
    exact Station.updateEntry_congr ok h (by simp [Entry.openedTo, Entry.opened, hs'])

/-- The counter-offer on an opened entry: posted where the station has none out, may offer, reaches the call and beats the OFFER (R83). -/
theorem Station.counterOffer_silent {s : Station} {t : Tag} {e : Entry} (h : s.req.find t = some e)
    (hnot : e.ownOffer.isSome = true ∨ s.mayOffer = false ∨ s.cost e.call = none) (o : Offer) : s.counterOffer t o = s := by
  rcases hnot with hown | hmay | hcost
  · simp [Station.counterOffer, h, Option.ne_none_iff_isSome.2 hown]
  · simp [Station.counterOffer, h, hmay]
  · simp [Station.counterOffer, h, hcost]

theorem Station.counterOffer_posted {s : Station} {t : Tag} {e : Entry} {c b : Nat} (h : s.req.find t = some e) (hown : e.ownOffer = none)
    (hmay : s.mayOffer = true) (hcost : s.cost e.call = some (c, b)) (o : Offer) :
    s.counterOffer t o = if (Offer.mk c s.k).beats o then s.postOffer t c b else s := by
  simp [Station.counterOffer, h, hown, hmay, hcost]

/-- Settles O24. -/
theorem offerIsTaken : Obligations.OfferIsTaken := by
  intro s own src dst t cost index rest hs hm ok x o ends stale opens further marked opened
  have row : exec .offer s = .next (ends (x.offerHeard own t o)) :=
    next_hear hs rfl (.inr (hearing_of_mode hm)) (act := Station.takeOfferFrame) rfl
  have further_eq : Entry.bidFurther o = further := by
    funext e
    simp only [further, Entry.bidFurther, betterOffer]
    cases e.best <;> rfl
  have stale_iff (e : Entry) : s.station.ownerStale e.owner = true ↔ stale e := s.station.ownerStale_iff e
  refine ⟨fun hnone => ?_, fun e hown hfind => ⟨fun hopen => ?_, fun hb => ?_, fun hn => ?_, fun ho => ?_⟩,
    fun e hown hfind => ⟨fun hopen => ?_, fun hb => ?_, fun hn => ?_⟩⟩
  · rw [row, Station.offerHeard_none hnone]
  · have found : opened.req.find t = some (opens e) := RequestUnit.find_update opens (fun _ => rfl) hfind
    have heard : x.offerHeard own t o = opened.counterOffer t o := by
      rw [hown]
      exact Station.offerHeard_opens ok hfind (hopen.imp_right fun h => ⟨h.1, (stale_iff e).2 h.2⟩) o
    refine ⟨fun hnot => by rw [row, heard, Station.counterOffer_silent found hnot], fun c b hnew hmay hcost => ?_⟩
    have posted : opened.postOffer t c b = (x.updateEntry t fun e => { opens e with ownOffer := some ⟨c, b, false⟩ }).post .request 63
        (.offer t c x.k) := by
      rw [Station.postOffer, x.updateEntry_updateEntry t opens _ fun _ => rfl]
      rfl
    rw [row, heard, Station.counterOffer_posted found hnew hmay hcost, posted]
    rfl
  · have heard : x.offerHeard own t o = x.updateEntry t (Entry.bidFurther o) := by simp [Station.offerHeard, hown, hfind, hb, x]
    rw [row, heard, further_eq]
  · have heard : x.offerHeard own t o = x := by
      rcases hn with hn | ⟨hn, hfresh⟩
      · simp [Station.offerHeard, hown, hfind, hn, x]
      · simp [Station.offerHeard, hown, hfind, hn, x, mt (stale_iff e).1 hfresh]
    rw [row, heard]
  · have heard : x.offerHeard own t o = x.reassert t := by simp [Station.offerHeard, hown, hfind, ho, x]
    rw [row, heard]
    rfl
  · have heard : x.offerHeard own t o = x.updateEntry t fun e => opens (marked e) := by
      rw [hown]
      exact Station.offerHeard_own_opens ok hfind (hopen.imp_right fun h => ⟨h.1, (stale_iff e).2 h.2⟩) o
    rw [row, heard]
  · have hb' : e.markHeard.state = .bidding := hb
    have heard : x.offerHeard own t o = x.updateEntry t fun e => further (marked e) := by
      rw [hown, Station.offerHeard]
      simp only [if_true, x.find_offerEcho hfind, hb', further_eq]
      exact x.updateEntry_updateEntry t Entry.markHeard further fun _ => rfl
    rw [row, heard]
  · have heard : x.offerHeard own t o = x.updateEntry t marked := by
      rw [hown, Station.offerHeard]
      simp only [if_true, x.find_offerEcho hfind]
      rcases hn with hn | hn | ⟨hn, hfresh⟩
      · have hn' : e.markHeard.state = .taking := hn
        rw [hn']; rfl
      · have hn' : e.markHeard.state = .owned := hn
        rw [hn']; rfl
      · have hn' : e.markHeard.state = .peer := hn
        have fresh' : ¬ (x.offerEcho t).ownerStale e.markHeard.owner = true := mt (stale_iff e).1 hfresh
        rw [hn']
        exact if_neg fresh'
    rw [row, heard]

/-! ## Windows and take waits (R84 to R86) -/

/-- An own offer wins its window exactly where it was heard back and is the best offer heard (R84). -/
theorem Entry.wins_iff {e : Entry} {o : OwnOffer} (h : e.ownOffer = some o) (k : Nat) :
    e.wins k = true ↔ o.heardBack = true ∧ e.best = some ⟨o.cost, k⟩ := by
  simp [Entry.wins, h]

theorem Station.windowExpired_won {s : Station} {t : Tag} {e : Entry} {o : OwnOffer} (h : s.req.find t = some e) (hp : e.phase = .window)
    (hb : e.state = .bidding) (ho : e.ownOffer = some o) (hw : e.wins s.k = true) (hf : s.fit = true) (hc : s.cost e.call ≠ none) :
    s.windowExpired t = s.takeCall t o.cost := by
  simp [Station.windowExpired, h, hp, hb, ho, hw, hf, Option.isSome_iff_ne_none.2 hc]

theorem Station.windowExpired_lost {s : Station} {t : Tag} {e : Entry} (h : s.req.find t = some e) (hp : e.phase = .window)
    (hb : e.state = .bidding) (hlost : ∀ o, e.ownOffer = some o → e.wins s.k = true → s.fit = true → s.cost e.call = none) :
    s.windowExpired t = s.updateEntry t fun e => { e with phase := .takeWait } := by
  cases ho : e.ownOffer with
  | none => simp [Station.windowExpired, h, hp, hb, ho]
  | some o =>
    have : (e.wins s.k && s.fit && (s.cost e.call).isSome) = false := by
      rw [← Bool.not_eq_true, Bool.and_eq_true, Bool.and_eq_true, and_assoc]
      rintro ⟨hw, hf, hc⟩
      rw [hlost o ho hw hf] at hc
      exact absurd hc nofun
    simp [Station.windowExpired, h, hp, hb, ho, this]

theorem Station.windowExpired_idle {s : Station} {t : Tag} {e : Entry} (h : s.req.find t = some e) (hp : e.phase = .window)
    (hb : e.state ≠ .bidding) : s.windowExpired t = s.updateEntry t fun e => { e with phase := .none } := by
  simp [Station.windowExpired, h, hp, hb]

theorem exec_offerWindowExpiry {s : State} {ciu num : Byte} {e : Entry} (h : s.station.req.find ⟨ciu.toNat, num.toNat⟩ = some e)
    (hp : e.phase = .window) : exec (.offerWindowExpiry ciu num) s =
      .next { s with station := (s.station.windowExpired ⟨ciu.toNat, num.toNat⟩).finish } :=
  next_station (if_pos (by
    show (s.station.req.find ⟨ciu.toNat, num.toNat⟩).any _ = true
    simp [h, hp]))

theorem exec_takeWaitExpiry {s : State} {ciu num : Byte} {e : Entry} (h : s.station.req.find ⟨ciu.toNat, num.toNat⟩ = some e)
    (hp : e.phase = .takeWait) : exec (.takeWaitExpiry ciu num) s =
      .next { s with station := (s.station.takeWaitExpired ⟨ciu.toNat, num.toNat⟩).finish } :=
  next_station (if_pos (by
    show (s.station.req.find ⟨ciu.toNat, num.toNat⟩).any _ = true
    simp [h, hp]))

/-- A take wait that ends returns the entry to HEARD; an own offer ends with it, which is a rescan point (R85, R94). -/
theorem Station.takeWaitExpired_eq {s : Station} {t : Tag} {e : Entry} (h : s.req.find t = some e) (hp : e.phase = .takeWait)
    (hb : e.state = .bidding) : s.takeWaitExpired t = { s with req := { s.req with
      table := s.req.table.map fun e => if e.call.tag = t then e.toHeard else e,
      rescan := s.req.rescan || e.ownOffer.isSome } } := by
  rw [Station.takeWaitExpired, h]
  simp only [hp, hb, and_self, if_true, Station.endOffer_of_find h, true_and]
  cases e.ownOffer
  · simp [Station.updateEntry, RequestUnit.update]
  · simp [Station.updateEntry, RequestUnit.update, Station.rescanPoint]

/-- Settles O25. -/
theorem windowAndTakeWaitExpire : Obligations.WindowAndTakeWaitExpire := by
  intro s ciu num e x t hfind won
  refine ⟨fun hp hb o ho hwon => ?_, fun hp hb hlost => ?_, fun hp hb => ?_, fun hp hb => ?_⟩
  · obtain ⟨o', ho', hback, hbest, hfit, hcost⟩ := hwon
    cases ho.symm.trans ho'
    rw [exec_offerWindowExpiry hfind hp,
      Station.windowExpired_won hfind hp hb ho ((Entry.wins_iff ho _).2 ⟨hback, hbest⟩) hfit hcost]
    rfl
  · rw [exec_offerWindowExpiry hfind hp, Station.windowExpired_lost hfind hp hb fun o ho hw hf => ?_]
    obtain ⟨hback, hbest⟩ := (Entry.wins_iff ho _).1 hw
    by_contra hcost
    exact hlost ⟨o, ho, hback, hbest, hf, hcost⟩
  · rw [exec_offerWindowExpiry hfind hp, Station.windowExpired_idle hfind hp hb]
  · rw [exec_takeWaitExpiry hfind hp, Station.takeWaitExpired_eq hfind hp hb]
    rfl

/-! ## Takes (R87 to R91) -/

theorem Station.setPeer_eq {s : Station} {t : Tag} {e : Entry} (h : s.req.find t = some e) (o : Owner) :
    s.setPeer t o = (((if e.state = .bidding ∧ e.ownOffer.isSome = true then s.rescanPoint else s).withdrawWaiting t).updateEntry t
      (Entry.toPeer o)) := by
  rw [Station.setPeer, Station.endOffer_of_find h]

/-- An entry that is not BIDDING goes to PEER with no offer ending. -/
theorem Station.setPeer_of_not_bidding {s : Station} {t : Tag} {e : Entry} (h : s.req.find t = some e) (hb : e.state ≠ .bidding)
    (o : Owner) : s.setPeer t o = (s.withdrawWaiting t).updateEntry t (Entry.toPeer o) := by
  rw [Station.setPeer_eq h, if_neg fun hx => hb hx.1]

/-- The own offer of a TAKING entry beats a rival's first TAKE with the lower cost, or the lower index at equal costs (R89). -/
theorem Entry.beatsRival_iff {e : Entry} {o : OwnOffer} (h : e.ownOffer = some o) (k : Nat) (c : Claim) :
    e.beatsRival k c = true ↔ o.cost < c.cost ∨ (o.cost = c.cost ∧ k < c.index) := by
  simp [Entry.beatsRival, h, Offer.beats_iff]

/-- Two reasserts: the loaded one wins, and of one kind the lower index (R88). -/
theorem Claim.reassert_beats_iff (k index : Nat) (held loaded : Bool) :
    (Claim.mk 0 k held).beats ⟨0, index, loaded⟩ = true ↔ if held = loaded then k < index else held = true := by
  rw [Claim.beats_reassert rfl, if_pos rfl]
  split <;> simp

/-- Settles O26. -/
theorem takeIsSettled : Obligations.TakeIsSettled := by
  refine ⟨?_, ?_⟩
  · intro s own src dst t cost index loaded rest hs hm x w peer ends
    have row {y : Station} (hy : Station.takeTakeFrame ⟨own, src, dst⟩ (.take t cost index loaded) x = y) :
        exec .take s = .next { s with station := y.finish.dequeue } :=
      next_hear hs rfl (.inr (hearing_of_mode hm)) (act := Station.takeTakeFrame) hy
    have settled (hown : own = false) : Station.takeTakeFrame ⟨own, src, dst⟩ (.take t cost index loaded) x = x.takeHeard t w := by
      subst hown; rfl
    refine ⟨fun hnone hown => row ?_, fun hown hcost => row ?_, fun e hown hfind => ⟨fun hb => row ?_, fun v hp hv => row ?_,
      fun o ht ho => row ?_, fun ho hcost => row ?_⟩⟩
    · rw [settled hown, Station.takeHeard, hnone]
    · rw [hown]
      exact if_neg hcost
    · rw [settled hown, Station.takeHeard, hfind]
      rcases hb with hb | hb
      · simp only [hb]
        exact Station.setPeer_eq hfind w
      · simp only [hb]
        exact Station.setPeer_eq hfind w
    · rw [settled hown, Station.takeHeard, hfind]
      simp only [hp, hv, Option.all_some, Bool.or_eq_true, beq_iff_eq]
      rfl
    · rw [settled hown, Station.takeHeard, hfind]
      simp only [ht, Entry.beatsRival_iff ho]
      exact if_congr Iff.rfl rfl (by
        rw [Station.yieldTo, Station.setPeer_of_not_bidding hfind (by simp [ht])]
        rfl)
    · rw [settled hown, Station.takeHeard, hfind]
      simp only [ho]
      exact if_pos hcost
  · intro s src dst t index loaded rest e hs hm hfind ho x held again mine
    have row {y : Station} (hy : x.settleOwned t e ⟨src, ⟨0, index, loaded⟩⟩ = y) :
        exec .take s = .next { s with station := y.finish.dequeue } := by
      refine next_hear hs rfl (.inr (hearing_of_mode hm)) (act := Station.takeTakeFrame) (Eq.trans ?_ hy)
      simp [Station.takeTakeFrame, Station.takeHeard, hfind, ho, x]
    have mine_iff : (Claim.mk 0 x.k (x.reelHeld t)).beats ⟨0, index, loaded⟩ = true ↔ mine := Claim.reassert_beats_iff ..
    refine ⟨fun hmine => row ?_, fun hmine hheld => row ?_, fun hmine hheld hre => row ?_, fun hmine hheld hre => row ?_⟩
    · simp only [Station.settleOwned, ne_eq, not_true_eq_false, if_false, mine_iff.2 hmine, if_true]
      rfl
    · have hheld' : x.reelHeld t = false := hheld
      simp only [Station.settleOwned, ne_eq, not_true_eq_false, if_false, if_neg (mt mine_iff.1 hmine)]
      rw [hheld', Station.loseOwned, Station.setPeer_of_not_bidding hfind (by simp [ho])]
      rfl
    · have hheld' : x.reelHeld t = true := hheld
      simp only [Station.settleOwned, ne_eq, not_true_eq_false, if_false, if_neg (mt mine_iff.1 hmine), if_neg hre]
      rw [if_neg (by simp [hheld'])]
      rfl
    · have hheld' : x.reelHeld t = true := hheld
      simp only [Station.settleOwned, ne_eq, not_true_eq_false, if_false, if_neg (mt mine_iff.1 hmine), if_pos hre]
      rw [if_neg (by simp [hheld'])]

/-! ## Holds (R87, R92) -/

/-- A request becomes ACTIVE and is handed over at its first stage, or at COMPLETING with its DONE waiting (R92). -/
theorem Station.handOver_of_find {s : Station} {t : Tag} {e : Entry} (h : s.req.find t = some e) : s.handOver t = { s with
    req := { s.req with active := some t, elapsed := 0 },
    seq := { s.seq with moveRefused := false, record := some { ReqRecord.new e.call with
      stage := if s.seq.doneWaiting t then .completing else firstStage e.call } } } := by
  rw [Station.handOver, h]
  dsimp only
  split <;> rfl

theorem exec_takeHoldEnd {s : State} {ciu num : Byte} {e : Entry} (h : s.station.req.find ⟨ciu.toNat, num.toNat⟩ = some e)
    (ht : e.state = .taking) (hh : e.hold = true) {y z : Station} (hy : s.station.updateEntry ⟨ciu.toNat, num.toNat⟩ Entry.toOwned = y)
    (hz : (if y.req.active = none then y.handOver ⟨ciu.toNat, num.toNat⟩ else y) = z) :
    exec (.takeHoldEnd ciu num) s =
      .next { s with station := (if e.rival then z.reassert ⟨ciu.toNat, num.toNat⟩ else z).finish } := by
  have ended : s.station.holdEnded ⟨ciu.toNat, num.toNat⟩ = if e.rival then z.reassert ⟨ciu.toNat, num.toNat⟩ else z := by
    rw [Station.holdEnded, h]
    dsimp only
    rw [if_pos ⟨ht, hh⟩, hy, hz]
  rw [← ended]
  exact next_station (if_pos (by
    show (s.station.req.find ⟨ciu.toNat, num.toNat⟩).any _ = true
    simp [h, hh]))

/-- Settles O27. -/
theorem holdEndsInOwned : Obligations.HoldEndsInOwned := by
  intro s ciu num e o x t hfind ht hh ho owned active after
  have found : owned.req.find t = some e.toOwned := RequestUnit.find_update Entry.toOwned (fun _ => rfl) hfind
  have handed : (if owned.req.active = none then owned.handOver t else owned) = after := by
    rw [Station.handOver_of_find found]
    rfl
  have row := exec_takeHoldEnd hfind ht hh (y := owned) rfl handed
  refine ⟨fun hr => ?_, fun hr => ?_⟩
  · rw [row, hr]
    rfl
  · rw [row, hr]
    rfl

end Sys2Proof.Machine
end

section
/-! SUPPORT and PROOFS. DONE and its repost, leaving the owned list, ageing and waiting calls (O28, O29). -/

namespace Sys2Proof.Machine

/-! ## DONE (R93, R96, R142) -/

theorem RequestUnit.owns_iff {r : RequestUnit} {t : Tag} : r.owns t = true ↔ ∃ e, r.find t = some e ∧ e.state = .owned := by
  cases h : r.find t <;> simp [RequestUnit.owns, h]

/-- The own echo of a DONE in the Carriage Sequencer (R142). -/
theorem Station.doneEcho_eq (s : Station) (d : Done) [Decidable (∃ r, s.seq.record = some r ∧ r.tag = d.tag ∧ r.stage = .completing)] :
    s.doneEcho d = { s with seq := { s.seq with
      doneList := removeDone d s.seq.doneList,
      record := if ∃ r, s.seq.record = some r ∧ r.tag = d.tag ∧ r.stage = .completing then none else s.seq.record } } := by
  have cleared : (s.seq.record.any fun r => r.tag == d.tag && r.stage == .completing) = true ↔
      ∃ r, s.seq.record = some r ∧ r.tag = d.tag ∧ r.stage = .completing := by
    cases s.seq.record <;> simp
  exact congrArg (fun r => { s with seq := { s.seq with doneList := removeDone d s.seq.doneList, record := r } })
    (if_congr cleared rfl rfl)

theorem Station.ownDone_owned {s : Station} {t : Tag} (h : ∃ e, s.req.find t = some e ∧ e.state = .owned) :
    s.ownDone t = (s.removeEntry t).leaveOwned t :=
  if_pos (RequestUnit.owns_iff.2 h)

theorem Station.ownDone_of_not {s : Station} {t : Tag} (h : ∀ e, s.req.find t = some e → e.state ≠ .owned) : s.ownDone t = s :=
  if_neg (by rw [RequestUnit.owns_iff]; rintro ⟨e, he, ho⟩; exact h e he ho)

/-- The one DONE record whose second since its drop is over is posted again (R142). -/
theorem Station.repostDone_between {s : Station} {front back : List DoneRecord} {d : Done} (h : s.seq.doneList = front ++ ⟨d, some 0⟩ :: back)
    (hrest : ∀ r ∈ front ++ back, r.timer ≠ some 0) :
    s.repostDone = Station.post { s with seq := { s.seq with doneList := front ++ ⟨d, none⟩ :: back } } .sequencer 63 (.done d) := by
  have quiet {l : List DoneRecord} (hl : ∀ r ∈ l, r.timer ≠ some 0) :
      l.filter (fun x => expired x.timer) = [] ∧ (l.map fun x => if expired x.timer then { x with timer := none } else x) = l := by
    refine ⟨List.filter_eq_nil_iff.2 fun r hr => by simpa [expired] using hl r hr, ?_⟩
    conv_rhs => rw [← List.map_id l]
    exact List.map_congr_left fun r hr => by simp [expired, hl r hr]
  obtain ⟨ffront, mfront⟩ := quiet fun r hr => hrest r (List.mem_append_left _ hr)
  obtain ⟨fback, mback⟩ := quiet fun r hr => hrest r (List.mem_append_right _ hr)
  have due : s.seq.doneList.filter (fun x => expired x.timer) = [⟨d, some 0⟩] := by
    rw [h, List.filter_append, ffront, List.filter_cons_of_pos (by rfl), fback]
    rfl
  have stopped : (s.seq.doneList.map fun x => if expired x.timer then { x with timer := none } else x) = front ++ ⟨d, none⟩ :: back := by
    rw [h, List.map_append, mfront, List.map_cons, mback]
    rfl
  unfold Station.repostDone
  rw [due, stopped]
  rfl

theorem exec_doneRepostTimer {s : State} {r : DoneRecord} (hr : r ∈ s.station.seq.doneList) (ht : r.timer = some 0) :
    exec .doneRepostTimer s = .next { s with station := s.station.repostDone.finish } :=
  next_station (if_pos (List.any_eq_true.2 ⟨r, hr, by simp [expired, ht]⟩))

/-! ## Leaving the owned list (R92 to R94) -/

theorem Station.leaveOwned_next {s : Station} {t : Tag} (h : s.req.active = some t) :
    s.leaveOwned t = match ({ s.req with owned := s.req.owned.filter fun u => u != t } : RequestUnit).nextOwned with
      | some u => Station.handOver { s with req := { s.req with owned := s.req.owned.filter fun u => u != t, rescan := true, active := none } } u
      | none => { s with req := { s.req with owned := s.req.owned.filter fun u => u != t, rescan := true, active := none } } := by
  unfold Station.leaveOwned
  rw [if_pos h]
  rfl

theorem not_owns_of_not {r : RequestUnit} {u : Tag} (h : ¬ ∃ e, r.find u = some e ∧ e.state = .owned) :
    ((r.find u).any fun e => e.state == .owned) = false := by
  rw [← Bool.not_eq_true]
  exact mt RequestUnit.owns_iff.1 h

/-- Settles O28. -/
theorem doneIsTakenAndReposted : Obligations.DoneIsTakenAndReposted := by
  refine ⟨?_, ?_, ?_⟩
  · intro s own src dst d rest hs hm x account echoed
    have row {y : Station} (hy : (if own then (x.doneEcho d).ownDone d.tag else x.peerDone d.tag) = y) :
        exec .done s = .next { s with station := (account y).finish.dequeue } := by
      subst hy
      exact next_hear hs rfl (.inr (hearing_of_mode hm)) (act := Station.takeDoneFrame) rfl
    have own_row (hown : own = true) {y : Station} (hy : echoed.ownDone d.tag = y) :
        exec .done s = .next { s with station := (account y).finish.dequeue } :=
      row (by subst hown; rw [if_pos rfl, Station.doneEcho_eq]; exact hy)
    have peer_row (hown : own = false) {y : Station} (hy : x.peerDone d.tag = y) :
        exec .done s = .next { s with station := (account y).finish.dequeue } :=
      row (by subst hown; exact hy)
    refine ⟨fun hown hfind => own_row hown (Station.ownDone_owned hfind), fun hown hnot => own_row hown (Station.ownDone_of_not hnot),
      fun hown hnone => peer_row hown ?_, fun e hown hfind => ⟨fun hstate => peer_row hown ?_, fun hstate => peer_row hown ?_,
        fun hstate hpick => peer_row hown ?_, fun hstate hpick => peer_row hown ?_⟩⟩
    · rw [Station.peerDone, hnone]
    · rw [Station.peerDone, hfind]
      rcases hstate with h | h | h <;> simp only [h]
    · rw [Station.peerDone, hfind]
      simp only [hstate]
    · rw [Station.peerDone, hfind]
      simp only [hstate, hpick, if_true]
    · rw [Station.peerDone, hfind]
      simp only [hstate, hpick, Bool.false_eq_true, if_false]
  · intro s front back d hlist hrest
    rw [exec_doneRepostTimer (r := ⟨d, some 0⟩) (by rw [hlist]; simp) rfl, Station.repostDone_between hlist hrest]
  · intro s t y owned
    refine ⟨fun hact => ?_, fun hact hnone => ?_, fun front u back e hact howned hfront hfind hstate hdone => ?_⟩
    · exact if_neg hact
    · have next : ({ s.req with owned := s.req.owned.filter fun u => u != t } : RequestUnit).nextOwned = none :=
        List.find?_eq_none.2 fun u hu => by
          rw [Bool.not_eq_true]
          exact not_owns_of_not (r := s.req) (hnone u hu)
      rw [Station.leaveOwned_next hact, next]
    · have howned' : (s.req.owned.filter fun u => u != t) = front ++ u :: back := howned
      have next : ({ s.req with owned := s.req.owned.filter fun u => u != t } : RequestUnit).nextOwned = some u := by
        rw [RequestUnit.nextOwned, howned', List.find?_append, List.find?_eq_none.2 fun v hv => by
          rw [Bool.not_eq_true]
          exact not_owns_of_not (r := s.req) (hfront v hv)]
        rw [Option.none_or, List.find?_cons_of_pos]
        exact RequestUnit.owns_iff (r := s.req).2 ⟨e, hfind, hstate⟩
      have first : y.seq.doneWaiting u = false := by simpa [Sequencer.doneWaiting, y] using hdone
      rw [Station.leaveOwned_next hact, next]
      refine (Station.handOver_of_find (s := { y with req := { y.req with active := none } }) hfind).trans ?_
      simp only [first, Bool.false_eq_true, if_false]
      rfl

/-! ## Ageing and waiting calls (R99 to R101) -/

/-- The aged entries, taken one after the other, leave the table; nothing else changes (R99). -/
theorem foldl_removeEntry {s : Station} {l : List Entry} (hl : ∀ e ∈ l, e ∈ s.req.table ∧ e.outstanding = false ∧ e.prompt = none)
    (ok : s.req.Ok) (hn : (l.map fun e => e.call.tag).Nodup) :
    l.foldl (fun s e => s.removeEntry e.call.tag) s = { s with req := { s.req with
      table := s.req.table.filter fun a => !(l.map fun e => e.call.tag).contains a.call.tag } } := by
  induction l generalizing s with
  | nil => simp
  | cons e es ih =>
    obtain ⟨hmem, hout, hprompt⟩ := hl e List.mem_cons_self
    obtain ⟨hnew, hn⟩ := List.nodup_cons.1 hn
    have found : s.req.find e.call.tag = some e := by
      cases hf : s.req.find e.call.tag with
      | none => exact absurd rfl (RequestUnit.find_eq_none.1 hf e hmem)
      | some a => rw [ok.eq_of_tag hf hmem rfl]
    rw [List.foldl_cons, Station.removeEntry_plain found hout hprompt, ih]
    · refine congrArg (fun q => { s with req := { s.req with table := q } }) ?_
      rw [List.filter_filter]
      refine List.filter_congr fun a _ => ?_
      rw [List.map_cons, List.contains_cons, Bool.not_or, Bool.and_comm]
      rfl
    · intro a ha
      obtain ⟨amem, rest⟩ := hl a (List.mem_cons_of_mem _ ha)
      refine ⟨List.mem_filter.2 ⟨amem, ?_⟩, rest⟩
      have : a.call.tag ≠ e.call.tag := fun h => hnew (List.mem_map.2 ⟨a, ha, h⟩)
      simpa using this
    · exact ⟨(List.length_filter_le ..).trans ok.1, ok.2.sublist (List.filter_sublist.map _)⟩
    · exact hn

theorem Station.ageOut_eq {s : Station} (ok : s.req.Ok) (hp : ∀ e ∈ s.req.table, e.aged s.now = true → e.prompt = none) :
    s.ageOut = { s with req := { s.req with table := s.req.table.filter fun e => !e.aged s.now } } := by
  have tags_nodup : ((s.req.table.filter (Entry.aged s.now)).map fun e => e.call.tag).Nodup :=
    ok.2.sublist (List.filter_sublist.map _)
  rw [Station.ageOut, foldl_removeEntry (fun e he => ?_) ok tags_nodup]
  · refine congrArg (fun q => { s with req := { s.req with table := q } }) (List.filter_congr fun a ha => congrArg not ?_)
    rw [Bool.eq_iff_iff, List.contains_iff_mem]
    constructor
    · intro hmem
      obtain ⟨b, hb, htag⟩ := List.mem_map.1 hmem
      obtain ⟨hb, haged⟩ := List.mem_filter.1 hb
      have : a = b := List.inj_on_of_nodup_map ok.2 ha hb htag.symm
      exact this ▸ haged
    · exact fun haged => List.mem_map_of_mem (List.mem_filter.2 ⟨ha, haged⟩)
  · obtain ⟨hmem, haged⟩ := List.mem_filter.1 he
    refine ⟨hmem, ?_, hp e hmem haged⟩
    have : e.state = .heard ∨ e.state = .peer := by simp [Entry.aged] at haged; exact haged.1
    rcases this with h | h <;> simp [Entry.outstanding, h]

theorem exec_requestAgeing {s : State} (hm : s.station.hearing = true) (h : ∃ e ∈ s.station.req.table, e.aged s.station.now = true) :
    exec .requestAgeing s = .next { s with station := s.station.ageOut.finish } :=
  next_station (if_pos (by rw [hm, Bool.true_and]; exact List.any_eq_true.2 h))

theorem exec_requestWaitingDue {s : State} {e : Entry} (hm : s.station.ctl.mode = .ready)
    (h : s.station.req.table.filter (Entry.waitingDue s.station.now s.station.k) = [e]) :
    exec .requestWaitingDue s = .next { s with station := (s.station.raiseWaiting e).finish } := by
  have due : s.station.req.table.any (Entry.waitingDue s.station.now s.station.k) = true := by
    have := List.mem_filter.1 (h ▸ List.mem_singleton_self e)
    exact List.any_eq_true.2 ⟨e, this⟩
  have one : s.station.raiseAllWaiting = s.station.raiseWaiting e := by
    rw [Station.raiseAllWaiting, h]
    rfl
  rw [← one]
  exact next_station (if_pos (by rw [hm, due]; rfl))

/-- Settles O29. -/
theorem ageingAndWaiting : Obligations.AgeingAndWaiting := by
  intro s x aged due
  have aged_eq : aged = Entry.aged x.now := by
    funext e
    simp only [aged, Entry.aged]
    cases e.state <;> rfl
  have due_eq : due = Entry.waitingDue x.now x.k := by
    funext e
    simp only [due, Entry.waitingDue]
    cases e.state <;> rfl
  refine ⟨fun hm ok hp hex => ?_, fun e hm hdue => ?_⟩
  · rw [aged_eq] at hp hex ⊢
    rw [exec_requestAgeing (hearing_of_mode hm) hex, Station.ageOut_eq ok hp]
  · intro r
    rw [exec_requestWaitingDue hm (due_eq ▸ hdue)]
    have pair : x.raise .requestWaiting ⟨some e.call.tag, some e.call.volume, none, none, none⟩ = (r.1, r.2) := rfl
    refine ⟨fun num hnum => next_station (congrArg Station.finish ?_), fun hnone => next_station (congrArg Station.finish ?_)⟩
    · rw [hnum] at pair
      exact congrArg (fun p => match p with
        | (s1, some num) => s1.updateEntry e.call.tag fun e => { e with raisedHere := true, prompt := some num }
        | (s1, none) => s1) pair
    · rw [hnone] at pair
      exact congrArg (fun p => match p with
        | (s1, some num) => s1.updateEntry e.call.tag fun e => { e with raisedHere := true, prompt := some num }
        | (s1, none) => s1) pair

end Sys2Proof.Machine
end

section
/-! SUPPORT and PROOFS. The reservation under a peer's SPAN, the own echo, the timers and the evaluation (O32 to O36). -/

namespace Sys2Proof.Machine

/-! ## A peer's SPAN is entered (R97, R102, R103) -/

/-- A peer's calls return to HEARD in their places; a rescan point where there was one (R97). -/
theorem Station.reopen_eq (s : Station) (a : Nat) : s.reopen a = { s with req := { s.req with
    table := s.req.table.map (Entry.reopened a), rescan := s.req.rescan || s.req.table.any (Entry.ownedBy a) } } := by
  unfold Station.reopen
  split
  next h => simp [Station.rescanPoint, h]
  next h =>
    rw [Bool.not_eq_true, List.any_eq_false] at h
    have same : s.req.table.map (Entry.reopened a) = s.req.table := by
      conv_rhs => rw [← List.map_id s.req.table]
      exact List.map_congr_left fun e he => if_neg (h e he)
    have none_owned : s.req.table.any (Entry.ownedBy a) = false := List.any_eq_false.2 h
    rw [same, none_owned, Bool.or_false]

/-- Settles O32. -/
theorem peerSpanIsEntered : Obligations.PeerSpanIsEntered := by
  refine ⟨?_, ?_⟩
  · intro s src dst index kind lo hi fresh reassert rest hs x freed
    have row (hm : x.hearing = true) {y : Station} (hy : x.peerSpanFrame src index kind lo hi fresh reassert = y) :
        exec .span s = .next { s with station := y.finish.dequeue } :=
      next_hear hs rfl (.inr hm) (act := Station.takeSpanFrame) hy
    refine ⟨fun hm hk => row (hearing_of_mode (.inl hm)) (if_pos ⟨hk, hm⟩), fun hm hk => ?_,
      fun hm hk => row (hearing_of_mode (.inr hm)) ?_⟩
    · intro y
      refine row (hearing_of_mode hm) ((if_neg fun h => hk h.1).trans ?_)
      dsimp only
      rw [if_neg hk]
      rfl
    · have ready : ¬ (index = x.k ∧ x.ctl.mode = .learning) := fun h => absurd (hm.symm.trans h.2) nofun
      refine (if_neg ready).trans ?_
      dsimp only
      rw [if_pos hk]
  · intro s a its
    exact s.reopen_eq a

/-! ## The reservation meets a peer's SPAN (R109, R113, R114) -/

/-- Two spans conflict unless one ends at least G west of the other (R75). -/
theorem ConfigValues.conflict_iff (c : ConfigValues) (a1 b1 a2 b2 : Nat) :
    c.conflict a1 b1 a2 b2 = true ↔ ¬ (b1 + c.G ≤ a2 ∨ b2 + c.G ≤ a1) := by
  simp [ConfigValues.conflict]

@[simp] theorem Station.handOver_span (s : Station) (t : Tag) : (s.handOver t).span = s.span := by
  unfold Station.handOver
  split <;> rfl

@[simp] theorem Station.leaveOwned_span (s : Station) (t : Tag) : (s.leaveOwned t).span = s.span := by
  unfold Station.leaveOwned
  dsimp only
  repeat' split
  · exact Station.handOver_span _ _
  · rfl
  · rfl

@[simp] theorem Station.takeDropped_span (s : Station) (t : Tag) (cost : Nat) : (s.takeDropped t cost).span = s.span := by
  unfold Station.takeDropped
  repeat' split
  · rw [Station.leaveOwned_span, Station.updateEntry_span]
  · rfl
  · rfl

/-- Outside ASKING the report of a dropped frame leaves the reservation (R106). -/
theorem Station.reportDrop_reservation {s : Station} (h : s.span.reservation ≠ .asking) (f : Frame) (newer : List Frame) :
    (s.reportDrop f newer).span.reservation = s.span.reservation := by
  have dropped (moving : Bool) : (s.spanDropped moving).span.reservation = s.span.reservation := by
    rw [Station.spanDropped, if_neg fun hx => h hx.1]
  unfold Station.reportDrop
  dsimp only
  repeat' split
  all_goals first | exact dropped _ | rfl | rw [Station.takeDropped_span]

theorem Station.settle_reservation {s : Station} (h : s.span.reservation ≠ .asking) (r : Liu × Option TxEntry) (newer : List Frame) :
    (s.settle r newer).span.reservation = s.span.reservation := by
  unfold Station.settle
  split
  · rfl
  · exact Station.reportDrop_reservation (s := { s with liu := r.1 }) h _ _

theorem Station.postOwn_reservation {s : Station} (h : s.span.reservation ≠ .asking) :
    s.postOwn.span.reservation = s.span.reservation := by
  unfold Station.postOwn
  split
  · rfl
  · exact Station.settle_reservation (s := { s with span := { s.span with restateTimer := some 200 } }) h _ _

theorem Station.stateOwn_reservation {s : Station} (h : s.span.reservation ≠ .asking) (o : OwnSpan) :
    (s.stateOwn o).span.reservation = s.span.reservation :=
  Station.postOwn_reservation (s := { s with span := { s.span with own := some o } }) h

/-- The causes of a STOP with the loss of the grant among them (R128). -/
theorem StopCauses.union_lost (causes : Option StopCauses) :
    some ((causes.getD ⟨false, false, false⟩).union ⟨false, true, false⟩) =
      some (match causes with | some c => { c with lost := true } | none => ⟨false, true, false⟩) := by
  cases causes <;> simp [StopCauses.union]

/-- A lost grant has STOP issued for a TRAVEL in flight, unless one is outstanding (R114, R128). -/
theorem Station.sendStop_lost {s : Station} {f : InFlight} {t : Nat} (h : s.seq.cmd = some f) (ht : f.cmd = .travel t) :
    s.sendStop ⟨false, true, false⟩ = { s with seq := { s.seq with
      cmd := some { f with causes := some (match f.causes with | some c => { c with lost := true } | none => ⟨false, true, false⟩) },
      stop := if s.seq.stop = none then some ⟨100, .travel t, f.purpose⟩ else s.seq.stop } } := by
  simp only [Station.sendStop, h, StopCauses.union_lost, ht]
  cases s.seq.stop <;> rfl

theorem Sequencer.travelling_iff {q : Sequencer} : q.travelling = true ↔ ∃ f t, q.cmd = some f ∧ f.cmd = .travel t := by
  unfold Sequencer.travelling
  split
  next t p n c o h => simp [h]
  next hno =>
    simp only [Bool.false_eq_true, false_iff]
    rintro ⟨⟨c, p, n, k, o⟩, t, hf, rfl⟩
    exact hno _ _ _ _ _ hf

theorem SpanUnit.movesForNone_iff (u : SpanUnit) : u.movesForNone = true ↔ ∃ m, u.move = some m ∧ m.purpose = .dropped := by
  cases h : u.move <;> simp [SpanUnit.movesForNone, h]

/-- Settles O33. -/
theorem reservationMeetsPeerSpan : Obligations.ReservationMeetsPeerSpan := by
  intro s o index lo hi reassert hown clash met
  have conflict_iff : s.cv.conflict o.lo o.hi lo hi = true ↔ clash := s.cv.conflict_iff ..
  have granted_met (hr : s.span.reservation = .granted) (hc : clash) : met = s.challenged o index reassert := by
    simp only [met, Station.reserveAgainst, hr, hown]
    exact if_pos (conflict_iff.2 hc)
  refine ⟨fun hr => ?_, fun hr hc => ?_, fun hr => ?_, fun hr hc => ?_, fun hr hc hre => ?_, fun hr hc hre ho hk => ?_,
    fun hr hc hre hlost => ?_⟩
  · simp [met, Station.reserveAgainst, hr]
  · rcases hr with hr | hr
    · simp only [met, Station.reserveAgainst, hr, hown]
      exact if_neg (mt conflict_iff.1 hc)
    · simp only [met, Station.reserveAgainst, hr, hown]
      exact if_neg (mt conflict_iff.1 hc)
  · simp [met, Station.reserveAgainst, hr]
  · intro y
    have lost : met = s.loseAsking := by
      simp only [met, Station.reserveAgainst, hr, hown]
      exact if_pos (conflict_iff.2 hc)
    have rested : ({ s.withdrawSpan.1.ownToRest with span := { s.withdrawSpan.1.ownToRest.span with
        reservation := .waiting, waitTimer := some 500, firstFree := false } } : Station) = y := by
      simp only [y, Station.ownToRest, Station.withdrawSpan]
      cases hrest : s.span.rest
      · simp only [hown, hrest]
      · rfl
    rw [lost, ← rested]
    rfl
  · rw [granted_met hr hc, hre]
    rfl
  · rw [granted_met hr hc, hre]
    exact (if_pos rfl).trans (if_pos ⟨ho, hk⟩)
  · intro lost kept
    have loses : met = s.loseGrant := by
      rw [granted_met hr hc, hre]
      refine (if_pos rfl).trans (if_neg fun h => ?_)
      rcases hlost with hl | hl
      · exact absurd (h.1.symm.trans hl) nofun
      · omega
    have given_up (q : Sequencer) (hq : (if s.seq.travelling then s.sendStop ⟨false, true, false⟩ else s) = { s with seq := q }) :
        met = kept (lost q) := by
      have waiting : (lost q).span.reservation = .waiting := Station.stateOwn_reservation (by simp) _
      have gives_up : (lost q).giveUpMove = (lost q).parkReservation.clearRailBlocked := by
        simp only [Station.giveUpMove, waiting]
      rw [loses, Station.loseGrant, hq, hown]
      exact if_congr s.span.movesForNone_iff gives_up rfl
    refine ⟨fun hno => given_up s.seq (if_neg fun ht => ?_), fun f t hf ht => given_up _ ?_⟩
    · obtain ⟨f, t, hf, ht⟩ := Sequencer.travelling_iff.1 ht
      exact hno f t hf ht
    · exact (if_pos (Sequencer.travelling_iff.2 ⟨f, t, hf, ht⟩)).trans (Station.sendStop_lost hf ht)

/-! ## The own SPAN heard back (R54, R110) -/

/-- The echo clears the fresh mark it carries first (R54). -/
theorem Station.spanEcho_fresh (s : Station) (kind : SpanKind) (lo hi : Nat) (fresh : Bool) :
    s.spanEcho kind lo hi fresh =
      Station.spanEcho { s with span := { s.span with fresh := s.span.fresh && !fresh } } kind lo hi false := by
  cases fresh
  · exact congrArg (fun b => Station.spanEcho { s with span := { s.span with fresh := b } } kind lo hi false) (Bool.and_true _).symm
  · exact congrArg (fun b => Station.spanEcho { s with span := { s.span with fresh := b } } kind lo hi false) (Bool.and_false _).symm

/-- Settles O34. -/
theorem spanHeardBack : Obligations.SpanHeardBack := by
  intro s src dst index kind lo hi fresh reassert rest o hs hm hown x
  have row {y : Station} (hy : x.spanEcho kind lo hi false = y) : exec .span s = .next { s with station := y.finish.dequeue } :=
    next_hear hs rfl (.inr (hearing_of_mode hm)) (act := Station.takeSpanFrame) ((s.station.spanEcho_fresh kind lo hi fresh).trans hy)
  have own : x.span.own = some o := hown
  refine ⟨fun hk hr hlo hhi => row ?_, fun hk hr => row ?_, fun hk => row ?_⟩
  · simp [Station.spanEcho, own, hk, hr, hlo, hhi]
  · rcases hr with hr | hr | hr
    · simp [Station.spanEcho, own, hk, hr]
    · simp [Station.spanEcho, own, hk, hr]
    · have apart : ¬ (o.lo = lo ∧ o.hi = hi) := by tauto
      cases hres : x.span.reservation <;> simp [Station.spanEcho, own, hk, hres, apart]
  · by_cases hmov : kind = .moving
    · obtain ⟨hr, hlo, hhi⟩ := hk.resolve_left (not_not_intro hmov)
      simp [Station.spanEcho, own, hmov, hr, hlo, hhi]
    · simp [Station.spanEcho, own, hmov]

/-! ## The timers and the evaluation (R106, R116 to R118) -/

/-- What a raise of RAIL-BLOCKED does: its latch is set where the raise is accepted (R118). -/
theorem Station.raiseRailBlocked_due {s : Station} {m : Move} (hm : s.span.move = some m) (hc : s.span.retries = 3)
    (hl : s.span.railLatch = false) {r : Station × Option Nat} (hr : s.raise .railBlocked ⟨none, none, some m.target, none, none⟩ = r) :
    s.raiseRailBlocked = match r.2 with
      | some num => { r.1 with span := { r.1.span with railLatch := true, railPrompt := some num } }
      | none => r.1 := by
  subst hr
  have raised : s.raiseRailBlocked = match s.raise .railBlocked ⟨none, none, some m.target, none, none⟩ with
      | (s1, some num) => { s1 with span := { s1.span with railLatch := true, railPrompt := some num } }
      | (s1, none) => s1 := by
    rw [Station.raiseRailBlocked, hm]
    exact if_pos ⟨hc, hl⟩
  rw [raised]
  rcases s.raise .railBlocked ⟨none, none, some m.target, none, none⟩ with ⟨y, _ | num⟩ <;> rfl

theorem Station.raiseRailBlocked_not_due {s : Station} (h : s.span.retries ≠ 3 ∨ s.span.railLatch = true ∨ s.span.move = none) :
    s.raiseRailBlocked = s := by
  unfold Station.raiseRailBlocked
  split
  · rfl
  next m hm =>
    refine if_neg fun ⟨hc, hl⟩ => ?_
    rcases h with h | h | h
    · exact h hc
    · exact absurd (hl.symm.trans h) nofun
    · exact absurd (hm.symm.trans h) nofun

/-- Settles O35. -/
theorem spanTimersExpire : Obligations.SpanTimersExpire := by
  intro s x
  refine ⟨fun o ht ho => ?_, fun hr ht => ?_⟩
  · have posted : x.postOwn = Station.settle { x with span := { x.span with restateTimer := some 200 } }
        (x.liu.postSpan ((Msg.span x.k o.kind o.lo o.hi x.span.fresh o.reassert).frame x.cv.address 63)) [] := by
      rw [Station.postOwn, ho]
      rfl
    rw [← posted]
    exact next_station (if_pos (congrArg expired ht))
  · intro again count counted
    have row : exec .waitingTimer s = .next (again counted.raiseRailBlocked) := by
      have counting : (if x.span.firstFree then x else { x with span := { x.span with retries := min (x.span.retries + 1) 3 } }) = counted := by
        exact (apply_ite (fun n => ({ x with span := { x.span with retries := n } } : Station)) (x.span.firstFree = true) _ _).symm
      refine next_station ((if_pos ⟨hr, congrArg expired ht⟩).trans (congrArg Station.finish ?_))
      rw [Station.waitExpired, counting]
    refine ⟨fun hn => by rw [row, Station.raiseRailBlocked_not_due hn], fun m hc hl hm => ?_⟩
    intro r
    have raised := Station.raiseRailBlocked_due (s := counted) hm hc hl (r := r) rfl
    refine ⟨fun num hnum => ?_, fun hnone => ?_⟩
    · rw [hnum] at raised
      rw [row, raised]
    · rw [hnone] at raised
      rw [row, raised]

/-- The peer entries that conflict with a span are the clashing ones (R75). -/
theorem Station.mem_conflicts {s : Station} {w : OwnSpan} {p : PeerSpan} :
    p ∈ s.conflicts w ↔ p ∈ s.span.peers ∧ ¬ (w.hi + s.cv.G ≤ p.lo ∨ p.hi + s.cv.G ≤ w.lo) := by
  rw [Station.conflicts, List.mem_filter, ConfigValues.conflict_iff]

theorem Station.conflicts_isEmpty_iff {s : Station} {w : OwnSpan} :
    (s.conflicts w).isEmpty = true ↔ ∀ p ∈ s.span.peers, ¬ ¬ (w.hi + s.cv.G ≤ p.lo ∨ p.hi + s.cv.G ≤ w.lo) := by
  rw [List.isEmpty_iff, List.eq_nil_iff_forall_not_mem]
  refine forall_congr' fun p => ?_
  rw [Station.mem_conflicts]
  tauto

/-- A waiting move is asked for where no peer entry conflicts, and else every conflicting peer is taken in turn (R116). -/
theorem Station.evaluate_waiting {s : Station} {c : Nat} {m : Move} (hr : s.span.reservation = .waiting) (hc : s.span.rest = some c)
    (hm : s.span.move = some m) :
    s.evaluate = if (s.conflicts (s.wanted c m.target)).isEmpty then s.ask (s.wanted c m.target)
      else (s.conflicts (s.wanted c m.target)).foldl (fun x p => x.nudgePeer (s.wanted c m.target) p) s := by
  simp only [Station.evaluate, hr, hc, hm]

/-- Settles O36. -/
theorem evaluationAsksOrNudges : Obligations.EvaluationAsksOrNudges := by
  intro s c m hr hc hm w clash
  refine ⟨fun hclear => ?_, fun p hp hclash => ?_⟩
  · exact (Station.evaluate_waiting hr hc hm).trans (if_pos (Station.conflicts_isEmpty_iff.2 hclear))
  · intro noted
    have one : s.conflicts (s.wanted c m.target) = [p] := by
      rw [Station.conflicts, hp]
      exact List.filter_cons_of_pos ((s.cv.conflict_iff ..).2 hclash)
    have nudged : s.evaluate = s.nudgePeer w p := by
      rw [Station.evaluate_waiting hr hc hm, one]
      rfl
    have already : (s.span.nudges.any fun n => n.addr == p.addr) = true ↔ ∃ n ∈ s.span.nudges, n.addr = p.addr := by simp
    refine ⟨fun hno => ?_, fun hk hs hn => ?_⟩
    · rw [nudged]
      refine if_neg fun ⟨hk, hs, hn⟩ => ?_
      rcases hno with h | h | h
      · exact h hk
      · exact absurd (hs.symm.trans h) nofun
      · exact hn (already.2 h)
    · rw [nudged]
      exact if_pos ⟨hk, hs, fun h => by obtain ⟨n, hmem, ha⟩ := already.1 h; exact hn n hmem ha⟩

end Sys2Proof.Machine
end

section
/-! SUPPORT and PROOFS. Nudges taken and served, silent peers (O37 to O39). -/

namespace Sys2Proof.Machine

/-! ## A NUDGE is taken (R119, R120) -/

theorem Station.takeNudge_ignored {s : Station} {west : Bool} {boundary requester : Nat}
    (h : s.seq.doorLatch = true ∨ s.seq.fault ≠ none ∨ (if west then requester ≤ s.k else s.k ≤ requester)) :
    s.takeNudge west boundary requester = s := by
  refine if_pos ?_
  rw [Bool.or_eq_true, Bool.or_eq_true, or_assoc]
  refine h.imp id (.imp Option.ne_none_iff_isSome.1 fun hw => ?_)
  cases west
  · exact decide_eq_true hw
  · exact decide_eq_true hw

section
variable {s : Station} {west : Bool} {boundary requester : Nat} (hf : s.fit = true)
  (h : ¬ if west then requester ≤ s.k else s.k ≤ requester)
include hf h

theorem Station.nudge_not_ignored :
    (s.heldCond || s.faulted || (if !west then decide (s.k ≤ requester) else decide (requester ≤ s.k))) = false := by
  obtain ⟨⟨-, hheld⟩, hfault⟩ : (_ ∧ s.heldCond = false) ∧ s.faulted = false := by simpa [Station.fit] using hf
  rw [hheld, hfault, Bool.false_or, Bool.false_or]
  cases west
  · exact decide_eq_false h
  · exact decide_eq_false h

/-- With the rest position unknown a NUDGE is held for later (R120). -/
theorem Station.takeNudge_unplaced (hr : s.span.rest = none) : s.takeNudge west boundary requester =
    { s with span := { s.span with held := holdNudge ⟨!west, boundary, requester⟩ s.span.held } } := by
  simp only [Station.takeNudge, Station.nudge_not_ignored hf h, hr, Bool.false_eq_true, if_false]

/-- A NUDGE that the rest position serves already has the own entry posted; any other is held, and served where the station is free
(R119, R120). -/
theorem Station.takeNudge_placed {c : Nat} (hr : s.span.rest = some c) : s.takeNudge west boundary requester =
    if alreadyServed (!west) c (s.nudgeCentre (!west) boundary) then s.postOwn
    else Station.serveHeld { s with span := { s.span with held := holdNudge ⟨!west, boundary, requester⟩ s.span.held } } := by
  simp only [Station.takeNudge, Station.nudge_not_ignored hf h, hr, Bool.false_eq_true, if_false]

end

theorem alreadyServed_iff (east : Bool) (rest centre : Nat) :
    alreadyServed east rest centre = true ↔ if east then centre ≤ rest else rest ≤ centre := by
  cases east <;> simp [alreadyServed]

/-- With a command in flight no held nudge is served (R120). -/
theorem Station.serveHeld_of_busy {s : Station} (h : s.seq.cmd ≠ none) : s.serveHeld = s := by
  have busy : s.seq.idle = false := by simp [Sequencer.idle, h]
  unfold Station.serveHeld
  split
  · rw [busy]; rfl
  · rfl

/-- Settles O37. -/
theorem nudgeIsTaken : Obligations.NudgeIsTaken := by
  intro s src dst west boundary requester rest hs hm x wrong centre held
  have row {y : Station} (hy : x.takeNudgeFrame ⟨false, src, dst⟩ (.nudge west boundary requester) = y) :
      exec .nudge s = .next { s with station := y.finish.dequeue } :=
    next_hear hs rfl (.inr (hearing_of_mode (.inr hm))) (act := Station.takeNudgeFrame) hy
  have for_us (hd : dst = x.cv.address) : x.takeNudgeFrame ⟨false, src, dst⟩ (.nudge west boundary requester) =
      x.takeNudge west boundary requester := by
    subst hd
    exact if_pos (by rw [Station.addressed_own, hm]; rfl)
  have centre_eq : x.nudgeCentre (!west) boundary = centre := by cases west <;> rfl
  have served_iff (c : Nat) : alreadyServed (!west) c centre = true ↔ if west then c ≤ centre else centre ≤ c := by
    rw [alreadyServed_iff]
    cases west <;> rfl
  refine ⟨fun hbad => row ?_, fun hd hf hw => ⟨fun c hc hserved => row ?_, fun c hc hserved => row ?_, fun hr => row ?_,
    fun hcmd => Station.serveHeld_of_busy hcmd⟩⟩
  · by_cases hd : dst = x.cv.address
    · rw [for_us hd, Station.takeNudge_ignored (hbad.resolve_left (not_not_intro hd))]
    · exact if_neg (by simp [Station.addressed, hd, x])
  · rw [for_us hd, Station.takeNudge_placed hf hw hc, centre_eq, if_pos ((served_iff c).2 hserved)]
  · rw [for_us hd, Station.takeNudge_placed hf hw hc, centre_eq, if_neg (mt (served_iff c).1 hserved)]
    rfl
  · rw [for_us hd, Station.takeNudge_unplaced hf hw hr]
    rfl

/-! ## Nudges are served (R120 to R122) -/

/-- A move is asked for at once where no peer entry conflicts (R108). -/
theorem Station.beginMove_clear {s : Station} {c target : Nat} {purpose : Purpose}
    (h : ∀ p ∈ s.span.peers, (s.wanted c target).hi + s.cv.G ≤ p.lo ∨ p.hi + s.cv.G ≤ (s.wanted c target).lo) :
    s.beginMove c target purpose =
      Station.ask { s with span := { s.span with move := some ⟨target, purpose⟩, retries := 0 } } (s.wanted c target) :=
  if_pos (Station.conflicts_isEmpty_iff.2 fun p hp => not_not_intro (h p hp))

/-- A move waits 5 s where one does, evaluated at once (R108). -/
theorem Station.beginMove_clash {s : Station} {c target : Nat} {purpose : Purpose}
    (h : ∃ p ∈ s.span.peers, ¬ ((s.wanted c target).hi + s.cv.G ≤ p.lo ∨ p.hi + s.cv.G ≤ (s.wanted c target).lo)) :
    s.beginMove c target purpose = Station.evaluate { s with span := { s.span with
      move := some ⟨target, purpose⟩, retries := 0, reservation := .waiting, waitTimer := some 500, firstFree := false } } := by
  refine if_neg fun hempty => ?_
  obtain ⟨p, hp, hclash⟩ := h
  exact Station.conflicts_isEmpty_iff.1 hempty p hp hclash

/-- The held nudges stand in the argument alone: what the Span Unit holds besides is replaced (R120). -/
theorem Station.serveNudges_held (s : Station) (c : Nat) (l ns : List HeldNudge) :
    Station.serveNudges { s with span := { s.span with held := l } } c ns = s.serveNudges c ns := by
  induction ns with
  | nil => rfl
  | cons n ns ih =>
    unfold Station.serveNudges
    exact congrArg₂ (fun y z : Station => if alreadyServed n.east c (s.nudgeCentre n.east n.boundary) = true then y else z) ih rfl

/-- The carriage is free for a held nudge (R108, R120). -/
theorem Station.serveHeld_free {s : Station} {c : Nat} (hr : s.span.rest = some c) (hi : s.seq.idle = true) (hf : s.fit = true)
    (hn : s.span.serving = false) (hg : s.span.reservation ≠ .granted) : s.serveHeld = s.serveNudges c s.span.held := by
  rw [Station.serveHeld, hr]
  dsimp only
  cases hh : s.span.held with
  | nil =>
    rw [if_neg (by simp)]
    unfold Station.serveNudges
    rw [← hh]
  | cons n rest => exact if_pos (by simp [hi, hf, hn, hg])

theorem SpanUnit.serving_iff (u : SpanUnit) : u.serving = true ↔ ∃ m, u.move = some m ∧ m.purpose = .nudge := by
  cases h : u.move <;> simp [SpanUnit.serving, h]

/-- The own entry that the rest position gives: the rest span, or the entry as it is where none is known (R105, R109). -/
def Station.restedOwn (s : Station) : Option OwnSpan :=
  match s.span.rest with
  | some p => some (s.restSpan p)
  | none => s.span.own

theorem Station.ownToRest_eq (s : Station) : s.ownToRest = { s with span := { s.span with own := s.restedOwn } } := by
  cases h : s.span.rest with
  | none =>
    have own : s.restedOwn = s.span.own := by simp only [Station.restedOwn, h]
    have kept : s.ownToRest = s := by simp only [Station.ownToRest, h]
    rw [kept, own]
  | some p =>
    have own : s.restedOwn = some (s.restSpan p) := by simp only [Station.restedOwn, h]
    have rested : s.ownToRest = { s with span := { s.span with own := some (s.restSpan p) } } := by simp only [Station.ownToRest, h]
    rw [rested, own]

/-- Settles O38. -/
theorem nudgesAreServed : Obligations.NudgesAreServed := by
  refine ⟨?_, ?_, ?_, ?_⟩
  · intro s c target purpose w clash begun
    refine ⟨fun h => ?_, fun h => Station.beginMove_clash h⟩
    exact Station.beginMove_clear fun p hp => not_not.1 (h p hp)
  · intro s parked
    refine ⟨fun hr => ?_, fun hr => ?_, fun hn => ?_, fun num hn => ?_⟩
    · simp only [Station.giveWay, hr]
      rfl
    · have given_way : s.giveWay = s.withdrawSpan.1.ownToRest.parkReservation.clearRailBlocked := by simp only [Station.giveWay, hr]
      rw [given_way, Station.ownToRest_eq]
      rfl
    · simp only [Station.clearRailBlocked, hn]
    · simp only [Station.clearRailBlocked, hn]
  · intro s c n rest hm hcmd hstop hlatch hfault hmove hg hrest hheld centre served taken
    have free : s.seq.idle = true := by simp [Sequencer.idle, hcmd, hstop]
    have fit : s.fit = true := by simp [Station.fit, Station.heldCond, Station.faulted, hm, hlatch, hfault]
    have none_served : s.span.serving = false := by
      rw [← Bool.not_eq_true, SpanUnit.serving_iff]
      rintro ⟨m, hmv, hp⟩
      exact hmove m hmv hp
    have row : s.serveHeld = if alreadyServed n.east c centre = true then s.serveNudges c rest
        else (if s.span.reservation = .parked then taken else taken.giveWay).beginMove c centre .nudge := by
      rw [Station.serveHeld_free hrest free fit none_served hg, hheld]
      rfl
    have served_iff : alreadyServed n.east c centre = true ↔ served := alreadyServed_iff ..
    refine ⟨fun hs => ?_, fun hs => by rw [row, if_neg (mt served_iff.1 hs)]⟩
    rw [row, if_pos (served_iff.2 hs), Station.serveHeld_free (s := taken) hrest free fit none_served hg]
    exact (s.serveNudges_held c rest rest).symm
  · intro s m hm hcmd hstop hg hmove hp hk
    have free : s.seq.idle = true := by simp [Sequencer.idle, hcmd, hstop]
    have serving : s.serveHeld.span.serving = true := (SpanUnit.serving_iff _).2 ⟨m, hmove, hp⟩
    unfold Station.chooseNext
    simp only [free, hm, Bool.not_true, Bool.false_eq_true, if_false]
    split
    next hgrant _ => exact absurd hgrant hg
    next => exact if_pos (by rw [serving, hk]; rfl)

/-! ## Silent peers (R104, R123) -/

/-- A change of one address' record that keeps due seconds keeps every record's due second. -/
theorem exists_updateSilent {l : List SilentPeer} {b d : Nat} (a : Nat) (h : ∃ r ∈ l, r.addr = b ∧ r.due = some d) :
    ∃ r ∈ updateSilent a (fun r => { r with due := some d }) l, r.addr = b ∧ r.due = some d := by
  induction l with
  | nil => simp at h
  | cons x xs ih =>
    obtain ⟨r, hr, hb, hd⟩ := h
    rw [updateSilent]
    split
    · rcases List.mem_cons.1 hr with rfl | hr
      · exact ⟨{ r with due := some d }, List.mem_cons_self, hb, rfl⟩
      · exact ⟨r, List.mem_cons_of_mem _ hr, hb, hd⟩
    · rcases List.mem_cons.1 hr with rfl | hr
      · exact ⟨r, List.mem_cons_self, hb, hd⟩
      · obtain ⟨q, hq, rest⟩ := ih ⟨r, hr, hb, hd⟩
        exact ⟨q, List.mem_cons_of_mem _ hq, rest⟩

/-- The record changed has the address and the due second (R123). -/
theorem mem_updateSilent (l : List SilentPeer) (a d : Nat) :
    ∃ r ∈ updateSilent a (fun r => { r with due := some d }) l, r.addr = a ∧ r.due = some d := by
  induction l with
  | nil => exact ⟨_, List.mem_cons_self, rfl, rfl⟩
  | cons x xs ih =>
    rw [updateSilent]
    split
    next h => exact ⟨{ x with due := some d }, List.mem_cons_self, h, rfl⟩
    next =>
      obtain ⟨q, hq, rest⟩ := ih
      exact ⟨q, List.mem_cons_of_mem _ hq, rest⟩

/-- Every peer marked at one advance has a silent-peer record with the due second (R104, R123). -/
theorem exists_foldl_updateSilent {ps : List PeerSpan} {l : List SilentPeer} {b d : Nat}
    (h : (∃ r ∈ l, r.addr = b ∧ r.due = some d) ∨ ∃ p ∈ ps, p.addr = b) :
    ∃ r ∈ ps.foldl (fun l p => updateSilent p.addr (fun r => { r with due := some d }) l) l, r.addr = b ∧ r.due = some d := by
  induction ps generalizing l with
  | nil => simpa using h
  | cons p ps ih =>
    refine ih ?_
    rcases h with h | ⟨q, hq, hb⟩
    · exact .inl (exists_updateSilent p.addr h)
    · rcases List.mem_cons.1 hq with rfl | hq
      · exact .inl (hb ▸ mem_updateSilent l q.addr d)
      · exact .inr ⟨q, hq, hb⟩

theorem Station.raiseSilent_raised {s : Station} {addr num : Nat}
    (h : (s.raise .stationSilent ⟨none, none, none, none, some addr⟩).2 = some num) :
    s.raiseSilent addr =
      let y := (s.raise .stationSilent ⟨none, none, none, none, some addr⟩).1
      { y with span := { y.span with silent := updateSilent addr (fun r => { r with raised := true, prompt := some num }) y.span.silent } } := by
  have raised : s.raise .stationSilent { PromptFields.none with peer := some addr } =
      ((s.raise .stationSilent ⟨none, none, none, none, some addr⟩).1, some num) := Prod.ext rfl h
  rw [Station.raiseSilent, raised]

theorem Station.raiseSilent_refused {s : Station} {addr : Nat}
    (h : (s.raise .stationSilent ⟨none, none, none, none, some addr⟩).2 = none) :
    s.raiseSilent addr = (s.raise .stationSilent ⟨none, none, none, none, some addr⟩).1 := by
  have refused : s.raise .stationSilent { PromptFields.none with peer := some addr } =
      ((s.raise .stationSilent ⟨none, none, none, none, some addr⟩).1, none) := Prod.ext rfl h
  rw [Station.raiseSilent, refused]

/-- Settles O39. -/
theorem silentPeersAreMarked : Obligations.SilentPeersAreMarked := by
  intro s hm x late
  refine ⟨fun hlate => ⟨x.markStale, ?_, rfl, fun p hp hl => ?_, rfl⟩, fun r hr => ?_⟩
  · exact next_station (if_pos (by rw [hm]; exact List.any_eq_true.2 hlate))
  · exact exists_foldl_updateSilent (.inr ⟨p, List.mem_filter.2 ⟨hp, hl⟩, rfl⟩)
  · intro q
    have due : s.station.span.silent.any s.station.silentDue = true :=
      List.any_eq_true.2 ⟨r, List.mem_filter.1 (hr ▸ List.mem_singleton_self r)⟩
    have row : exec .stationSilentDue s = .next { s with station := (x.raiseSilent r.addr).finish } := by
      refine next_station ((if_pos (by rw [hm, due]; rfl)).trans (congrArg Station.finish ?_))
      have hr' : s.station.span.silent.filter s.station.silentDue = [r] := hr
      rw [hr']
      rfl
    refine ⟨fun num hnum => ?_, fun hnone => ?_⟩
    · rw [row, Station.raiseSilent_raised hnum]
    · rw [row, Station.raiseSilent_refused hnone]

end Sys2Proof.Machine
end

section
/-! SUPPORT. What postings leave alone: a prompt's frames leave the Carriage Sequencer, the Span Unit and the requests in hand; a SPAN or
a NUDGE leaves the Sequencer but for its DONE list's timers, and the requests in hand (R13, R14, R81, R86, R106, R142). -/

namespace Sys2Proof.Machine

/-! ## The frame dropped at a posting (R14) -/

theorem removeLastNormal_normal {q q' : List TxEntry} {v : TxEntry} (h : removeLastNormal q = some (v, q')) : v.frame.urgent = false := by
  induction q generalizing q' with
  | nil => simp [removeLastNormal] at h
  | cons x xs ih =>
    rw [removeLastNormal] at h
    cases hr : removeLastNormal xs with
    | some p =>
      rw [hr] at h
      cases h
      exact ih hr
    | none =>
      rw [hr] at h
      dsimp only at h
      split at h
      · cases h
      next hx => cases h; simpa using hx

theorem Liu.displaceable_normal {l : Liu} {v : TxEntry} {q : List TxEntry} (h : l.displaceable = some (v, q)) : v.frame.urgent = false := by
  unfold Liu.displaceable at h
  split at h
  · obtain ⟨⟨w, q'⟩, hw, heq⟩ := Option.map_eq_some_iff.1 h
    cases heq
    exact removeLastNormal_normal hw
  · exact removeLastNormal_normal h

/-- A posting drops the frame posted, or displaces a NORMAL one for an URGENT one (R14). -/
theorem Liu.post_dropped {l : Liu} {e v : TxEntry} (h : (l.post e).2 = some v) : v = e ∨ (e.frame.urgent = true ∧ v.frame.urgent = false) := by
  unfold Liu.post at h
  split at h
  · cases h
  · split at h
    next hu =>
      split at h
      next hd => cases h; exact .inr ⟨hu, Liu.displaceable_normal hd⟩
      next => cases h; exact .inl rfl
    next => cases h; exact .inl rfl

theorem Liu.postSpan_dropped {l : Liu} {f : Frame} {v : TxEntry} (h : (l.postSpan f).2 = some v) :
    v.frame = f ∨ (f.urgent = true ∧ v.frame.urgent = false) := by
  unfold Liu.postSpan at h
  split at h
  · cases h
  · split at h
    · cases h
    · exact (Liu.post_dropped h).imp_left (congrArg TxEntry.frame)

theorem Frame.kind_ne_take_of_normal {f : Frame} (h : f.urgent = false) : f.kind ≠ 0x22#8 := by
  rintro hk
  simp [Frame.urgent, hk] at h

/-! ## Prompts (R158 to R165) -/

/-- What a PROMPT or PROMPT-CLEAR leaves alone, dropped or not: the Carriage Sequencer, the Span Unit and the requests in hand. -/
def Station.plans (s : Station) : Sequencer × SpanUnit × Option Tag × List Tag := (s.seq, s.span, s.req.active, s.req.owned)

theorem Station.reportDrop_plans {s : Station} {f : Frame} (h : f.kind = 0x41#8 ∨ f.kind = 0x42#8) (newer : List Frame) :
    (s.reportDrop f newer).plans = s.plans := by
  unfold Station.reportDrop
  rcases h with h | h
  all_goals
    simp only [h, BitVec.reduceEq, if_false, if_true]
    split <;> rfl

theorem Station.post_plans {s : Station} {m : Msg} (h : m.code = 0x41#8 ∨ m.code = 0x42#8) (b : Block) (d : Nat) :
    (s.post b d m).plans = s.plans := by
  have normal : (m.frame s.cv.address d).urgent = false := by
    rcases h with h | h <;> simp [Frame.urgent, Msg.frame, h]
  unfold Station.post Station.settle
  split
  · rfl
  next e he =>
    rcases Liu.post_dropped he with rfl | ⟨hu, -⟩
    · exact Station.reportDrop_plans (s := { s with liu := _ }) h _
    · exact absurd (hu.symm.trans normal) nofun

@[simp] theorem Station.statePrompt_plans (s : Station) (n : Nat) : (s.statePrompt n).plans = s.plans := by
  unfold Station.statePrompt; dsimp only; split
  · rw [Station.post_plans (.inl rfl)]; rfl
  · rfl

@[simp] theorem Station.showPrompt_plans (s : Station) (n : Nat) : (s.showPrompt n).plans = s.plans := Station.statePrompt_plans _ _

@[simp] theorem Station.chooseShown_plans (s : Station) : s.chooseShown.plans = s.plans := by
  unfold Station.chooseShown; split
  · exact s.showPrompt_plans _
  · rfl

@[simp] theorem Station.postClear_plans (s : Station) (n : Nat) (r : ClearReason) : (s.postClear n r).plans = s.plans :=
  Station.post_plans (.inr rfl) _ _

@[simp] theorem Station.preempt_plans (s : Station) (a b : Nat) : (s.preempt a b).plans = s.plans := by
  rw [Station.preempt, Station.showPrompt_plans, Station.postClear_plans]; rfl

@[simp] theorem Station.offerShown_plans (s : Station) (n : Nat) (l : Level) : (s.offerShown n l).plans = s.plans := by
  unfold Station.offerShown; repeat' split
  · exact s.chooseShown_plans
  · exact s.preempt_plans _ _
  · rfl

@[simp] theorem Station.driveBeacon_plans (s : Station) : s.driveBeacon.plans = s.plans := rfl

@[simp] theorem Station.leavePrompt_plans (s : Station) (n : Nat) (r : ClearReason) : (s.leavePrompt n r).plans = s.plans := by
  unfold Station.leavePrompt; split
  · rfl
  · dsimp only
    split
    · rw [Station.driveBeacon_plans, Station.chooseShown_plans]
      exact s.postClear_plans _ _
    · rfl

@[simp] theorem Station.withdrawPrompt_plans (s : Station) (u : Block) (n : Nat) : (s.withdrawPrompt u n).plans = s.plans := by
  unfold Station.withdrawPrompt; repeat' split
  · exact s.leavePrompt_plans _ _
  · rfl
  · rfl

@[simp] theorem Station.toldDisplaced_plans (s : Station) (e : PromptEntry) : (s.toldDisplaced e).plans = s.plans := by
  unfold Station.toldDisplaced; split <;> rfl

@[simp] theorem Station.acceptRaise_plans (s : Station) (k : PromptKind) (f : PromptFields) : (s.acceptRaise k f).1.plans = s.plans := by
  rw [Station.acceptRaise]; dsimp only
  rw [Station.driveBeacon_plans, Station.offerShown_plans]; rfl

@[simp] theorem Station.raise_plans (s : Station) (k : PromptKind) (f : PromptFields) : (s.raise k f).1.plans = s.plans := by
  unfold Station.raise; repeat' split
  · exact s.acceptRaise_plans k f
  · dsimp only
    rw [Station.acceptRaise_plans, Station.toldDisplaced_plans, Station.leavePrompt_plans]
  · rfl

@[simp] theorem Station.raise_seq (s : Station) (k : PromptKind) (f : PromptFields) : (s.raise k f).1.seq = s.seq :=
  congrArg (·.1) (s.raise_plans k f)

@[simp] theorem Station.raise_span (s : Station) (k : PromptKind) (f : PromptFields) : (s.raise k f).1.span = s.span :=
  congrArg (·.2.1) (s.raise_plans k f)

@[simp] theorem Station.withdrawPrompt_seq (s : Station) (u : Block) (n : Nat) : (s.withdrawPrompt u n).seq = s.seq :=
  congrArg (·.1) (s.withdrawPrompt_plans u n)

@[simp] theorem Station.withdrawPrompt_span (s : Station) (u : Block) (n : Nat) : (s.withdrawPrompt u n).span = s.span :=
  congrArg (·.2.1) (s.withdrawPrompt_plans u n)

/-! ## SPANs and NUDGEs (R106, R117) -/

/-- What a SPAN or a NUDGE leaves alone, and the frame that it displaces: the Carriage Sequencer but for its DONE list, and the requests
in hand. -/
def Station.work (s : Station) : Sequencer × Option Tag × List Tag := ({ s.seq with doneList := [] }, s.req.active, s.req.owned)

theorem Station.work_of_plans {s y : Station} (h : y.plans = s.plans) : y.work = s.work :=
  congrArg (fun p : Sequencer × SpanUnit × Option Tag × List Tag => ({ p.1 with doneList := [] }, p.2.2.1, p.2.2.2)) h

theorem Station.work_of_seq_req {s y : Station} (hs : y.seq = s.seq) (hr : y.req = s.req) : y.work = s.work := by
  rw [Station.work, Station.work, hs, hr]

@[simp] theorem Station.ownToRest_work (s : Station) : s.ownToRest.work = s.work := by rw [Station.ownToRest_eq]; rfl

@[simp] theorem Station.spanDropped_work (s : Station) (b : Bool) : (s.spanDropped b).work = s.work := by
  unfold Station.spanDropped; split
  · exact s.ownToRest_work
  · rfl

/-- Only the drop of a TAKE reaches the requests in hand (R86). -/
theorem Station.reportDrop_work {s : Station} {f : Frame} (h : f.kind ≠ 0x22#8) (newer : List Frame) : (s.reportDrop f newer).work = s.work := by
  unfold Station.reportDrop
  have other : ¬ f.kind = (0x22 : Byte) := h
  dsimp only
  rw [if_neg other]
  repeat' split
  all_goals first | rfl | exact s.spanDropped_work _

theorem Station.settle_work {s : Station} {r : Liu × Option TxEntry} (h : ∀ v, r.2 = some v → v.frame.kind ≠ 0x22#8) (newer : List Frame) :
    (s.settle r newer).work = s.work := by
  unfold Station.settle
  split
  · rfl
  next e he => exact Station.reportDrop_work (s := { s with liu := r.1 }) (h e he) _

theorem Station.post_work {s : Station} {m : Msg} (h : m.code ≠ 0x22#8) (b : Block) (d : Nat) : (s.post b d m).work = s.work := by
  refine Station.settle_work (fun v hv => ?_) _
  rcases Liu.post_dropped hv with rfl | ⟨-, hn⟩
  · exact h
  · exact Frame.kind_ne_take_of_normal hn

@[simp] theorem Station.postOwn_work (s : Station) : s.postOwn.work = s.work := by
  unfold Station.postOwn
  split
  · rfl
  next o _ =>
    refine (Station.settle_work (s := { s with span := { s.span with restateTimer := some 200 } }) (fun v hv => ?_) _).trans rfl
    rcases Liu.postSpan_dropped hv with hf | ⟨-, hn⟩
    · rw [hf]; exact (by decide : (0x31#8 : Byte) ≠ 0x22#8)
    · exact Frame.kind_ne_take_of_normal hn

@[simp] theorem Station.stateOwn_work (s : Station) (o : OwnSpan) : (s.stateOwn o).work = s.work := Station.postOwn_work _

@[simp] theorem Station.updateRest_work (s : Station) : s.updateRest.work = s.work := by
  unfold Station.updateRest; dsimp only; repeat' split
  all_goals first | rfl | exact s.stateOwn_work _

@[simp] theorem Station.clearRailBlocked_plans_seq (s : Station) : s.clearRailBlocked.seq = s.seq := by
  unfold Station.clearRailBlocked; dsimp only; split
  · rw [Station.withdrawPrompt_seq]
  · rfl

@[simp] theorem Station.clearRailBlocked_work (s : Station) : s.clearRailBlocked.work = s.work := by
  unfold Station.clearRailBlocked; dsimp only; split
  · refine (Station.work_of_plans (Station.withdrawPrompt_plans _ _ _)).trans ?_
    rfl
  · rfl

@[simp] theorem Station.ask_work (s : Station) (w : OwnSpan) : (s.ask w).work = s.work := Station.stateOwn_work _ _

@[simp] theorem Station.nudgePeer_work (s : Station) (w : OwnSpan) (p : PeerSpan) : (s.nudgePeer w p).work = s.work := by
  have posts {m : Msg} (h : m.code ≠ 0x22#8) :
      (Station.post { s with span := { s.span with nudges := s.span.nudges ++ [NudgeRecord.mk p.addr 500] } } .span p.addr m).work =
        s.work := Station.post_work h _ _
  unfold Station.nudgePeer; dsimp only; repeat' split
  · exact posts (by simp [Msg.code])
  · exact posts (by simp [Msg.code])
  · rfl

theorem foldl_work {α : Type} (f : Station → α → Station) (h : ∀ s x, (f s x).work = s.work) (l : List α) (s : Station) :
    (l.foldl f s).work = s.work := by
  induction l generalizing s with
  | nil => rfl
  | cons x xs ih => rw [List.foldl_cons, ih, h]

@[simp] theorem Station.evaluate_work (s : Station) : s.evaluate.work = s.work := by
  unfold Station.evaluate; split
  · dsimp only; split
    · exact s.ask_work _
    · exact foldl_work _ (fun s p => s.nudgePeer_work _ p) _ _
  · rfl

@[simp] theorem Station.reportPosition_work (s : Station) (p : Nat) : (s.reportPosition p).work = s.work := by
  unfold Station.reportPosition; dsimp only; repeat' split
  · rw [Station.updateRest_work]; rfl
  · rw [Station.evaluate_work, Station.updateRest_work]; rfl
  · rfl
  · rw [Station.stateOwn_work]; rfl
  · rfl

@[simp] theorem Station.conditionCleared_work (s : Station) : s.conditionCleared.work = s.work := by
  unfold Station.conditionCleared; split
  · rfl
  · exact s.updateRest_work

@[simp] theorem Station.parkReservation_work (s : Station) : s.parkReservation.work = s.work := rfl

@[simp] theorem Station.holdSpan_work (s : Station) : s.holdSpan.work = s.work := by
  unfold Station.holdSpan; dsimp only
  rw [Station.clearRailBlocked_work, Station.postOwn_work, Station.parkReservation_work]
  split <;> rfl

@[simp] theorem Station.giveUpMove_work (s : Station) : s.giveUpMove.work = s.work := by
  unfold Station.giveUpMove; dsimp only; split
  · rfl
  · rw [Station.clearRailBlocked_work, Station.parkReservation_work]
  · rw [Station.clearRailBlocked_work, Station.postOwn_work, Station.parkReservation_work, Station.ownToRest_work]; rfl
  · rfl

/-! ## The Span Unit outside ASKING (R106, R111) -/

/-- The Span Unit but for its restatement timer and its nudge records. -/
def Station.stand (s : Station) : SpanUnit := { s.span with restateTimer := none, nudges := [] }

/-- Outside ASKING a dropped frame reaches the restatement timer and the nudge records alone (R106, R117). -/
theorem Station.reportDrop_stand {s : Station} (h : s.span.reservation ≠ .asking) (f : Frame) (newer : List Frame) :
    (s.reportDrop f newer).stand = s.stand := by
  have dropped (moving : Bool) : (s.spanDropped moving).stand = s.stand := by
    rw [Station.spanDropped, if_neg fun hx => h hx.1]; rfl
  have taken (t : Tag) (cost : Nat) : (s.takeDropped t cost).stand = s.stand := by rw [Station.stand, Station.takeDropped_span]; rfl
  unfold Station.reportDrop
  dsimp only
  repeat' split
  all_goals first | rfl | exact dropped _ | exact taken _ _

theorem Station.settle_stand {s : Station} (h : s.span.reservation ≠ .asking) (r : Liu × Option TxEntry) (newer : List Frame) :
    (s.settle r newer).stand = s.stand := by
  unfold Station.settle
  split
  · rfl
  · exact Station.reportDrop_stand (s := { s with liu := r.1 }) h _ _

theorem Station.postOwn_stand {s : Station} (h : s.span.reservation ≠ .asking) : s.postOwn.stand = s.stand := by
  unfold Station.postOwn
  split
  · rfl
  · exact Station.settle_stand (s := { s with span := { s.span with restateTimer := some 200 } }) h _ _

end Sys2Proof.Machine
end

section
/-! SUPPORT and PROOFS. Completions of TRAVEL, PICK, PLACE, READ-LABEL and RING-CHECK (O41 to O43). -/

namespace Sys2Proof.Machine

/-! ## A completion is taken (R126) -/

/-- A status word that names the command in flight is taken with its code, the command out of flight (R126, R127). -/
theorem next_completion {s : State} {f : InFlight} {status : Word} {n : Nat} {c : Code} (hf : s.station.seq.cmd = some f)
    (hn : f.cmd.code = n) (hst : status.toNat / 256 % 16 = n) (hc : validCode f.cmd f.causes.isSome (statusCode status) = c)
    {g : Code → InFlight → Station → Station} {y : Station}
    (hy : g c f { s.station with seq := { s.station.seq with cmd := none } } = y) :
    (s.act fun x => x.onCompletion n status g) = .next { s with station := y.finish } := by
  have named : s.station.completes n status = some (c, f, { s.station with seq := { s.station.seq with cmd := none } }) := by
    rw [Station.completes, hf]
    dsimp only
    rw [if_pos ⟨hn, hst⟩, hc]
  rw [State.act_eq, Station.onCompletion, named]
  exact next_station (congrArg Station.finish hy)

theorem statusCode_ok {w : Word} (h : w.toNat % 8 = 0) : statusCode w = .ok := by simp [statusCode, h]
theorem statusCode_empty {w : Word} (h : w.toNat % 8 = 1) : statusCode w = .empty := by simp [statusCode, h]
theorem statusCode_occupied {w : Word} (h : w.toNat % 8 = 2) : statusCode w = .occupied := by simp [statusCode, h]
theorem statusCode_stopped {w : Word} (h : w.toNat % 8 = 3) : statusCode w = .stopped := by simp [statusCode, h]

/-- OK is valid for every command (R126). -/
theorem validCode_ok {w : Word} (h : w.toNat % 8 = 0) (c : Command) (b : Bool) : validCode c b (statusCode w) = .ok := by
  rw [statusCode_ok h]; rfl

/-- STOPPED is valid for a command that a STOP was issued for (R126). -/
theorem validCode_stopped {w : Word} (h : w.toNat % 8 = 3) (c : Command) {causes : Option StopCauses} (hc : causes ≠ none) :
    validCode c causes.isSome (statusCode w) = .stopped := by
  rw [statusCode_stopped h, Option.isSome_iff_ne_none.2 hc]; rfl

section
variable {s : State} {f : InFlight} {status : Word} {c : Code} (hf : s.station.seq.cmd = some f)
  (hc : validCode f.cmd f.causes.isSome (statusCode status) = c)
include hf hc

theorem exec_travelCompletion {t : Nat} (ht : f.cmd = .travel t) (hst : status.toNat / 256 % 16 = 1) :
    exec (.travelCompletion status) s =
      .next { s with station := (Station.travelDone { s.station with seq := { s.station.seq with cmd := none } } f t c).finish } :=
  next_completion hf (by rw [ht]; rfl) hst hc (by rw [ht])

theorem exec_pickCompletion {p : Place} (hp : f.cmd = .pick p) (hst : status.toNat / 256 % 16 = 2) :
    exec (.pickCompletion status) s =
      .next { s with station := (Station.pickEnd { s.station with seq := { s.station.seq with cmd := none } } f p c).finish } :=
  next_completion hf (by rw [hp]; rfl) hst hc (by rw [hp])

theorem exec_placeCompletion {p : Place} (hp : f.cmd = .place p) (hst : status.toNat / 256 % 16 = 3) :
    exec (.placeCompletion status) s =
      .next { s with station := (Station.placeEnd { s.station with seq := { s.station.seq with cmd := none } } f p c).finish } :=
  next_completion hf (by rw [hp]; rfl) hst hc (by rw [hp])

theorem exec_readLabelCompletion (hp : f.cmd = .readLabel) (hst : status.toNat / 256 % 16 = 4) (u w1 w2 w3 : Word) :
    exec (.readLabelCompletion status u w1 w2 w3) s = .next { s with station :=
      (Station.labelEnd { s.station with seq := { s.station.seq with cmd := none } } f u w1 w2 w3 c).finish } :=
  next_completion hf (by rw [hp]; rfl) hst hc rfl

theorem exec_ringCheckCompletion (hp : f.cmd = .ringCheck) (hst : status.toNat / 256 % 16 = 5) (present : Word) :
    exec (.ringCheckCompletion status present) s = .next { s with station :=
      (Station.ringEnd { s.station with seq := { s.station.seq with cmd := none } } f present c).finish } :=
  next_completion hf (by rw [hp]; rfl) hst hc rfl

theorem exec_reportCompletion (hp : f.cmd = .report) (hst : status.toNat / 256 % 16 = 6) (position loaded : Word) :
    exec (.reportCompletion status position loaded) s = .next { s with station :=
      (Station.reportEnd { s.station with seq := { s.station.seq with cmd := none } } f position loaded c).finish } :=
  next_completion hf (by rw [hp]; rfl) hst hc rfl

end

/-! ## TRAVEL (R112, R131, R132) -/

theorem Station.clearRailBlocked_none {s : Station} (h : s.span.railPrompt = none) :
    s.clearRailBlocked = { s with span := { s.span with railLatch := false } } := by
  simp only [Station.clearRailBlocked, h]

/-- The granted TRAVEL done, with no RAIL-BLOCKED standing (R112). -/
theorem Station.parkAt_eq {s : Station} (h : s.span.railPrompt = none) (p : Nat) :
    s.parkAt p = Station.stateOwn { s with span := { s.span with
      rest := some p, reservation := .parked, move := none, retries := 0, waitTimer := none, firstFree := false, railLatch := false } }
        ⟨p - s.cv.H, min (p + s.cv.H) 65535, .parked, false⟩ :=
  congrArg (Station.stateOwn · ⟨p - s.cv.H, min (p + s.cv.H) 65535, .parked, false⟩)
    (Station.clearRailBlocked_none (s := Station.parkReservation { s with span := { s.span with rest := some p } }) h)

theorem InFlight.resumes_iff {f : InFlight} {c : StopCauses} (h : f.causes = some c) :
    f.resumes = true ↔ c.door = true ∧ f.orphan = false ∧ f.purpose ≠ .nudge ∧ f.purpose ≠ .dropped := by
  simp [InFlight.resumes, InFlight.doorStopped, h, and_assoc]

/-- A STOPPED command is recorded to resume where the door stopped it, its request stands and it is neither a nudge's nor a dropped
request's (R148). -/
theorem Station.recordResume_eq {s : Station} {f : InFlight} {c : StopCauses} (h : f.causes = some c) :
    s.recordResume f = { s with seq := { s.seq with
      resume := if c.door = true ∧ f.orphan = false ∧ f.purpose ≠ .nudge ∧ f.purpose ≠ .dropped then some (f.cmd, f.purpose)
        else s.seq.resume } } := by
  by_cases hr : f.resumes = true
  · rw [Station.recordResume, if_pos hr, if_pos ((InFlight.resumes_iff h).1 hr)]
  · rw [Station.recordResume, if_neg hr, if_neg (mt (InFlight.resumes_iff h).2 hr)]

theorem Station.stoppedOnOwn_eq {s : Station} {o : OwnSpan} (h : s.span.own = some o) : s.stoppedOnOwn = Station.stateOwn { s with span :=
    { s.span with rest := none, reservation := .parked, move := none, retries := 0, waitTimer := none, firstFree := false } }
      ⟨o.lo, o.hi, .fixed, false⟩ := by
  simp only [Station.stoppedOnOwn, h]
  rfl

/-- Settles O41. -/
theorem travelCompletes : Obligations.TravelCompletes := by
  intro s status f t hf ht hst x
  refine ⟨fun hok hr hdrop hrail => ?_, fun c hstop hc hr => ?_, fun c o hstop hc hdoor hr ho => ?_⟩
  · rw [exec_travelCompletion hf (validCode_ok hok _ _) ht hst]
    refine next_station (congrArg Station.finish ?_)
    have arrived : (f.causes.any fun c => c.dropped) = false := by
      cases hc : f.causes with
      | none => rfl
      | some c => exact hdrop c hc
    simp only [Station.travelDone, arrived, Bool.false_eq_true, if_false]
    exact (if_pos hr).trans (Station.parkAt_eq (s := { x with seq := { x.seq with cmd := none, pos := some t, posKnown := true } }) hrail t)
  · rw [exec_travelCompletion hf (validCode_stopped hstop _ (by simp [hc])) ht hst]
    refine next_station (congrArg Station.finish ?_)
    refine Eq.trans ?_ (Station.recordResume_eq (s := { x with seq := { x.seq with cmd := none, posKnown := false } }) hc)
    exact congrArg (Station.recordResume · f) (if_neg hr)
  · rw [exec_travelCompletion hf (validCode_stopped hstop _ (by simp [hc])) ht hst]
    refine next_station (congrArg Station.finish ?_)
    have stays : f.resumes = false := by
      rw [← Bool.not_eq_true, InFlight.resumes_iff hc, hdoor]
      simp
    have kept (y : Station) : y.recordResume f = y := if_neg (by rw [stays]; exact Bool.false_ne_true)
    exact (kept _).trans ((if_pos hr).trans
      (Station.stoppedOnOwn_eq (s := { x with seq := { x.seq with cmd := none, posKnown := false } }) ho))

end Sys2Proof.Machine
end

section
/-! SUPPORT and PROOFS. PICK, PLACE, READ-LABEL and RING-CHECK (O42, O43). -/

namespace Sys2Proof.Machine

theorem Station.activeCall_of {s : Station} {r : ReqRecord} {c : Call} (hr : s.seq.record = some r) (hc : s.callOf r.tag = some c) :
    s.activeCall = some c := by
  rw [Station.activeCall, hr]; exact hc

theorem Station.tag_of_callOf {s : Station} {t : Tag} {c : Call} (h : s.callOf t = some c) : c.tag = t := by
  obtain ⟨e, he, rfl⟩ := Option.map_eq_some_iff.1 h
  exact RequestUnit.tag_of_find he

/-- A stage raises its prompt and the request waits with a stage to resume (R139). -/
theorem Station.raiseBound_eq {s : Station} {r : ReqRecord} {c : Call} (hr : s.seq.record = some r) (hc : s.callOf r.tag = some c)
    (k : PromptKind) (resume : Stage) (pos drive : Option Nat) :
    s.raiseBound k resume pos drive =
      let q := s.raise k ⟨some r.tag, some c.volume, pos, drive, none⟩
      { q.1 with seq := { q.1.seq with record := q.1.seq.record.map fun u => { u with stage := resume, waiting := some k, prompt := q.2 } } } := by
  simp only [Station.raiseBound, hr, Station.activeCall_of hr hc]
  rfl

/-! ## PICK (R134, R143) -/

theorem Station.atPick_of {s : Station} {r : ReqRecord} (hr : s.seq.record = some r) :
    s.atPick = true ↔ r.stage = .picking ∨ r.stage = .detourPick := by
  simp [Station.atPick, hr]

theorem Station.pickOk_eq {s : Station} {r : ReqRecord} {c : Call} (hr : s.seq.record = some r) (hc : s.callOf r.tag = some c) :
    s.pickOk = { s with seq := { s.seq with hand := .request, record := some (r.picked c.kind) } } := by
  simp only [Station.pickOk, Station.activeCall_of hr hc, Station.updateRecord, hr, Option.map_some]

/-- EMPTY is valid for a PICK, OCCUPIED for a PLACE (R126). -/
theorem validCode_empty {w : Word} (h : w.toNat % 8 = 1) (p : Place) (b : Bool) : validCode (.pick p) b (statusCode w) = .empty := by
  rw [statusCode_empty h]; rfl

theorem validCode_occupied {w : Word} (h : w.toNat % 8 = 2) (p : Place) (b : Bool) : validCode (.place p) b (statusCode w) = .occupied := by
  rw [statusCode_occupied h]; rfl

/-! ## PLACE (R136, R137, R151) -/

theorem Station.complete_eq {s : Station} {r : ReqRecord} {c : Call} (hr : s.seq.record = some r) (hc : s.callOf r.tag = some c) :
    s.complete = Station.postDone { s with seq := { s.seq with
      record := some { r with stage := .completing, waiting := none, prompt := none } } } (doneOf c r.outcome r.assisted) := by
  simp only [Station.complete, hr, Station.activeCall_of hr hc, Station.updateRecord, Option.map_some]

theorem Station.postDone_of_room {s : Station} (h : s.seq.doneList.length ≤ 3) (d : Done) :
    s.postDone d = Station.post { s with seq := { s.seq with doneList := s.seq.doneList ++ [⟨d, none⟩] } } .sequencer 63 (.done d) := by
  rw [Station.postDone, if_pos h]

theorem Station.placeOk_placing {s : Station} {r : ReqRecord} (hr : s.seq.record = some r) (h : r.stage = .placing) :
    s.placeOk = Station.complete { s with seq := { s.seq with hand := .empty } } := by
  simp only [Station.placeOk, hr, h, if_true]

theorem Station.placeOk_detour {s : Station} {r : ReqRecord} (hr : s.seq.record = some r) (h : r.stage = .detourPlace) :
    s.placeOk = Station.raiseBound { s with seq := { s.seq with hand := .empty } } .ringNeeded .detourPick none none := by
  simp [Station.placeOk, hr, h]

theorem Station.raiseOccupied_eq {s : Station} {r : ReqRecord} {c : Call} (hr : s.seq.record = some r) (hc : s.callOf r.tag = some c)
    (p : Place) : s.raiseOccupied p = s.raiseBound .slotOccupied r.stage (some p.pos)
      (if r.stage = .placing ∧ r.dest = .drive then some c.driveNo else none) := by
  simp only [Station.raiseOccupied, hr, Station.activeCall_of hr hc]

/-- A hand that is emptied with no HAND-LOADED standing (R151). -/
theorem Station.handEmptied_of_none {s : Station} (h : s.seq.handPrompt = none) :
    s.handEmptied = { s with seq := { s.seq with
      hand := .empty, putBack := none, handPrompt := none, handRaiseOwed := false, handReportOwed := false } } := by
  simp only [Station.handEmptied, h]

theorem Station.orphanRaise_due {s : Station} (hh : s.seq.hand = .orphan) (hb : s.seq.putBack = none) (hp : s.seq.handPrompt = none)
    (hr : s.seq.handRaiseOwed = false) (ho : s.seq.handReportOwed = false) (hf : s.seq.fault = none) :
    s.orphanRaise = s.raiseHandLoaded :=
  if_pos ⟨hh, hb, hp, hr, ho, by rw [Station.faulted, hf]; rfl⟩

theorem Station.putBackEnd_fails {s : Station} (f : InFlight) {c : Code} (h : c = .occupied ∨ c = .stopped) :
    s.putBackEnd f c = Station.orphanRaise { s with seq := { s.seq with putBack := none } } := by
  rcases h with rfl | rfl <;> rfl

/-- Settles O42. -/
theorem pickAndPlaceComplete : Obligations.PickAndPlaceComplete := by
  refine ⟨?_, ?_⟩
  · intro s status f p hf hp hst x
    have row {c : Code} (hc : validCode f.cmd f.causes.isSome (statusCode status) = c) {y : Station} (hy : x.pickEnd f p c = y) :
        exec (.pickCompletion status) s = .next { s with station := y.finish } := hy ▸ exec_pickCompletion hf hc hp hst
    have empty (h : status.toNat % 8 = 1) : validCode f.cmd f.causes.isSome (statusCode status) = .empty := by
      rw [hp]; exact validCode_empty h p _
    refine ⟨fun r c hok ho hr hstage hc => row (validCode_ok hok _ _) ?_, fun hok ho => row (validCode_ok hok _ _) ?_,
      fun r c he ho hr hc => ?_, fun he ho => row (empty he) (if_pos ho),
      fun c hstop hc => row (validCode_stopped hstop _ (by simp [hc])) (Station.recordResume_eq (s := x) hc)⟩
    · refine (if_neg ?_).trans (Station.pickOk_eq hr hc)
      simp [ho, (Station.atPick_of hr).2 hstage]
    · refine if_pos ?_
      rcases ho with ho | ho
      · rw [ho]; rfl
      · simp [Station.atPick, ho]
    · intro q
      refine row (empty he) ((if_neg (by rw [ho]; exact Bool.false_ne_true)).trans ?_)
      simp only [hr]
      exact Station.raiseBound_eq hr hc ..
  · intro s status f p hf hp hst x waits
    have row {c : Code} (hc : validCode f.cmd f.causes.isSome (statusCode status) = c) {y : Station} (hy : x.placeEnd f p c = y) :
        exec (.placeCompletion status) s = .next { s with station := y.finish } := hy ▸ exec_placeCompletion hf hc hp hst
    have occupied (h : status.toNat % 8 = 2) : validCode f.cmd f.causes.isSome (statusCode status) = .occupied := by
      rw [hp]; exact validCode_occupied h p _
    have stage_end (hb : f.purpose ≠ .putBack) (ho : f.orphan = false) :
        x.placeEnd f p .ok = x.placeOk ∧ x.placeEnd f p .occupied = x.raiseOccupied p := by
      simp [Station.placeEnd, hb, ho]
    refine ⟨fun r c hb ho hr hc => ⟨fun hok hstage hroom => ?_, fun hok hstage => ?_, fun hocc => ?_⟩,
      fun hb ho => ⟨fun hok => row (validCode_ok hok _ _) (by simp [Station.placeEnd, hb, ho]),
        fun hocc => row (occupied hocc) (by simp [Station.placeEnd, hb, ho])⟩,
      fun c hb hstop hc => row (validCode_stopped hstop _ (by simp [hc])) ?_, fun hb hok hn => row (validCode_ok hok _ _) ?_,
      fun hb hfail hh hn hro hre hfault => ?_⟩
    · intro d
      refine row (validCode_ok hok _ _) ?_
      rw [(stage_end hb ho).1, Station.placeOk_placing hr hstage]
      refine (Station.complete_eq (s := { x with seq := { x.seq with hand := .empty } }) hr hc).trans ?_
      have done_eq : doneOf c r.outcome r.assisted = d := by rw [doneOf, Station.tag_of_callOf hc]
      rw [done_eq]
      exact Station.postDone_of_room (s := { x with seq := { x.seq with
        hand := .empty, record := some { r with stage := .completing, waiting := none, prompt := none } } }) hroom d
    · refine row (validCode_ok hok _ _) ?_
      rw [(stage_end hb ho).1, Station.placeOk_detour hr hstage]
      exact Station.raiseBound_eq (s := { x with seq := { x.seq with hand := .empty } }) hr hc ..
    · refine row (occupied hocc) ?_
      rw [(stage_end hb ho).2, Station.raiseOccupied_eq hr hc]
      exact Station.raiseBound_eq hr hc ..
    · exact (if_neg hb).trans (Station.recordResume_eq (s := x) hc)
    · refine (if_pos hb).trans ((Station.handEmptied_of_none hn).trans ?_)
      exact congrArg (fun n => ({ x with seq := { x.seq with
        hand := .empty, putBack := none, handPrompt := n, handRaiseOwed := false, handReportOwed := false } } : Station)) hn.symm
    · intro q
      have ended {c : Code} (hc : c = .occupied ∨ c = .stopped) : x.placeEnd f p c = Station.raiseHandLoaded { x with seq :=
          { x.seq with putBack := none } } :=
        (if_pos hb).trans ((Station.putBackEnd_fails f hc).trans (Station.orphanRaise_due hh rfl hn hro hre hfault))
      rcases hfail with hocc | ⟨hstop, hcauses⟩
      · exact row (occupied hocc) (ended (.inl rfl))
      · exact row (validCode_stopped hstop _ hcauses) (ended (.inr rfl))

/-! ## READ-LABEL and RING-CHECK (R135, R136) -/

/-- A label matches that is readable and has the volume's six characters (R126, R135). -/
theorem labelMatches_of_eq {w1 w2 w3 : Word} {volume : List Byte} (hv : serialOk volume = true) (h : labelChars w1 w2 w3 = volume) :
    labelMatches 0 w1 w2 w3 volume = true := by
  have chars : volume.all serialChar = true := by simp only [serialOk, Bool.and_eq_true] at hv; exact hv.2
  simp [labelMatches, h, chars]

theorem labelMatches_of_ne {u w1 w2 w3 : Word} {volume : List Byte} (h : u ≠ 0 ∨ labelChars w1 w2 w3 ≠ volume) :
    labelMatches u w1 w2 w3 volume = false := by
  rcases h with h | h
  · have readable : (u == 0) = false := beq_eq_false_iff_ne.2 h
    rw [labelMatches, readable]; rfl
  · simp [labelMatches, h]

theorem Station.labelOk_eq {s : Station} {r : ReqRecord} {c : Call} (hr : s.seq.record = some r) (hc : s.callOf r.tag = some c)
    (u w1 w2 w3 : Word) : s.labelOk u w1 w2 w3 = if labelMatches u w1 w2 w3 c.volume = true then
      { s with seq := { s.seq with record := some { r with stage := afterLabel c } } } else s.raiseBound .serialMismatch .label none none := by
  simp only [Station.labelOk, Station.activeCall_of hr hc, Station.updateRecord, hr, Option.map_some]

/-- Settles O43. -/
theorem labelAndRingComplete : Obligations.LabelAndRingComplete := by
  refine ⟨?_, ?_⟩
  · intro s status f r c hf ho hok hr hc x go chars
    have standing : ¬ f.orphan = true := by rw [ho]; exact Bool.false_ne_true
    have label_row (hl : f.cmd = .readLabel) (hst : status.toNat / 256 % 16 = 4) (u w1 w2 w3 : Word) :
        exec (.readLabelCompletion status u w1 w2 w3) s = .next { s with station := (x.labelOk u w1 w2 w3).finish } :=
      (exec_readLabelCompletion hf (validCode_ok hok _ _) hl hst u w1 w2 w3).trans (next_station (congrArg Station.finish (if_neg standing)))
    refine ⟨fun a b d hl hst hv hch => ?_, fun u a b d hl hst hch => ?_, fun hring hst => ?_⟩
    · rw [label_row hl hst, Station.labelOk_eq (s := x) hr hc, if_pos (labelMatches_of_eq hv hch)]
      rfl
    · intro q
      have apart := labelMatches_of_ne hch
      rw [label_row hl hst, Station.labelOk_eq (s := x) hr hc, if_neg (by rw [apart]; exact Bool.false_ne_true)]
      exact next_station (congrArg Station.finish (Station.raiseBound_eq (s := x) hr hc ..))
    · have ring_row (present : Word) : exec (.ringCheckCompletion status present) s =
          .next (go (if present = 0 then .detourTravel else .toDrive)) := by
        refine (exec_ringCheckCompletion hf (validCode_ok hok _ _) hring hst present).trans
          (next_station (congrArg Station.finish ((if_neg standing).trans ?_)))
        simp only [Station.updateRecord, hr, Option.map_some]
        rfl
      exact ⟨ring_row 0, fun present hp => by rw [ring_row, if_neg hp]⟩
  · intro s status f hf ho hok x
    refine ⟨fun u a b d hl hst => ?_, fun present hring hst => ?_⟩
    · exact (exec_readLabelCompletion hf (validCode_ok hok _ _) hl hst u a b d).trans (next_station (congrArg Station.finish (if_pos ho)))
    · exact (exec_ringCheckCompletion hf (validCode_ok hok _ _) hring hst present).trans
        (next_station (congrArg Station.finish (if_pos ho)))

end Sys2Proof.Machine
end

section
/-! SUPPORT and PROOFS. REPORT completions and what is taken up after them (O44, O45). -/

namespace Sys2Proof.Machine

/-! ## The Carriage Sequencer through a report of the position -/

section
variable {s y : Station} (h : y.work = s.work)
include h

theorem Station.hand_of_work : y.seq.hand = s.seq.hand := congrArg (·.1.hand) h
theorem Station.putBack_of_work : y.seq.putBack = s.seq.putBack := congrArg (·.1.putBack) h
theorem Station.handPrompt_of_work : y.seq.handPrompt = s.seq.handPrompt := congrArg (·.1.handPrompt) h
theorem Station.handRaiseOwed_of_work : y.seq.handRaiseOwed = s.seq.handRaiseOwed := congrArg (·.1.handRaiseOwed) h
theorem Station.handReportOwed_of_work : y.seq.handReportOwed = s.seq.handReportOwed :=
  congrArg (·.1.handReportOwed) h
theorem Station.fault_of_work : y.seq.fault = s.seq.fault := congrArg (·.1.fault) h
theorem Station.resume_of_work : y.seq.resume = s.seq.resume := congrArg (·.1.resume) h
theorem Station.pos_of_work : y.seq.pos = s.seq.pos := congrArg (·.1.pos) h
theorem Station.cmd_of_work : y.seq.cmd = s.seq.cmd := congrArg (·.1.cmd) h

end

/-! ## The Span Unit's answers to a position (R105, R107, R116) -/

/-- The rest span is stated where it has new ends or a new kind (R105). -/
theorem Station.updateRest_eq {s : Station} {p : Nat} (h : s.span.rest = some p)
    [Decidable (∃ o, s.span.own = some o ∧ o.lo = (s.restSpan p).lo ∧ o.hi = (s.restSpan p).hi ∧ o.kind = (s.restSpan p).kind)] :
    s.updateRest = if ∃ o, s.span.own = some o ∧ o.lo = (s.restSpan p).lo ∧ o.hi = (s.restSpan p).hi ∧ o.kind = (s.restSpan p).kind
      then s else s.stateOwn (s.restSpan p) := by
  split
  next hx =>
    obtain ⟨o, hown, hsame⟩ := hx
    simp only [Station.updateRest, h, hown]
    exact if_pos hsame
  next hx =>
    cases hown : s.span.own with
    | none => simp only [Station.updateRest, h, hown]
    | some o =>
      simp only [Station.updateRest, h, hown]
      exact if_neg fun hsame => hx ⟨o, hown, hsame⟩

theorem Station.updateRest_none {s : Station} (h : s.span.rest = none) : s.updateRest = s := by
  simp only [Station.updateRest, h]

theorem Station.conditionCleared_both {s : Station} (hl : s.seq.doorLatch = false) (hf : s.seq.fault = none) :
    s.conditionCleared = s.updateRest.rescanPoint :=
  if_neg (by simp [Station.heldCond, Station.faulted, hl, hf])

theorem Station.conditionCleared_one {s : Station} (h : s.seq.doorLatch = true ∨ s.seq.fault ≠ none) : s.conditionCleared = s :=
  if_pos (by
    rw [Bool.or_eq_true]
    exact h.imp id Option.isSome_iff_ne_none.2)

/-! ## A REPORT that completed OK (R145 to R147) -/

/-- The station with its command completed (R126). -/
def Station.commandless (s : Station) : Station := { s with seq := { s.seq with cmd := none } }

/-- The station as a REPORT that completed OK has it: the position known, the hand by the table (R145). -/
def Station.located (s : Station) (p : Nat) (loaded : Bool) : Station :=
  { s with seq := { s.seq with pos := some p, posKnown := true, hand := handAfter s.seq.hand loaded } }

theorem Station.reportOk_noFault {s : Station} (h : s.seq.fault = none) (p : Nat) (loaded : Bool) :
    s.reportOk p loaded = if loaded then ((s.located p loaded).reportPosition p).takeUpResume.orphanRaise
      else ((s.located p loaded).reportPosition p).takeUpResume.handEmptied := by
  rw [Station.reportOk, h]
  rfl

theorem Station.reportOk_retry {s : Station} {g : FaultRecord} (h : s.seq.fault = some g) (ha : g.answer = some .retry) (p : Nat)
    (loaded : Bool) : s.reportOk p loaded = if loaded then ((s.located p loaded).retryDone g p).orphanRaise
      else ((s.located p loaded).retryDone g p).handEmptied := by
  rw [Station.reportOk, h]
  dsimp only
  rw [ha]
  rfl

theorem Station.reportOk_release {s : Station} {g : FaultRecord} (h : s.seq.fault = some g) (ha : g.answer = some .release) (p : Nat)
    (loaded : Bool) : s.reportOk p loaded = if loaded then ((s.located p loaded).releaseDone g p loaded).orphanRaise
      else ((s.located p loaded).releaseDone g p loaded).handEmptied := by
  rw [Station.reportOk, h]
  dsimp only
  rw [ha]
  rfl

theorem Station.raiseHandLoaded_eq {s : Station} {p : Nat} (h : s.seq.pos = some p) : s.raiseHandLoaded =
    let q := s.raise .handLoaded ⟨none, none, some p, none, none⟩
    { q.1 with seq := { q.1.seq with handPrompt := q.2, handRaiseOwed := q.2.isNone } } := by
  rw [Station.raiseHandLoaded, h]
  rfl

theorem Station.raiseFault_eq {s : Station} {f : FaultRecord} (h : s.seq.fault = some f) : s.raiseFault =
    let q := s.raise .carriageFault ⟨if f.noTag then none else s.req.active, none, some (s.seq.pos.getD 0), none, none⟩
    { q.1 with seq := { q.1.seq with fault := some { f with prompt := q.2, raiseOwed := q.2.isNone } } } := by
  simp only [Station.raiseFault, h]
  rfl

theorem Station.orphanRaise_of_faulted {s : Station} (h : s.seq.fault ≠ none) : s.orphanRaise = s :=
  if_neg fun ⟨_, _, _, _, _, hf⟩ => by
    rw [Station.faulted, Option.isSome_iff_ne_none.2 h] at hf
    exact absurd hf nofun

theorem Station.orphanRaise_of_hand {s : Station} (h : s.seq.hand ≠ .orphan) : s.orphanRaise = s := if_neg fun hx => h hx.1

theorem Station.orphanRaise_of_putBack {s : Station} (h : s.seq.putBack ≠ none) : s.orphanRaise = s := if_neg fun hx => h hx.2.1

/-- Nothing is taken up where nothing is recorded to resume, and a TRAVEL only through its fresh reservation (R150). -/
theorem Station.takeUpResume_stays {s : Station}
    (h : s.seq.resume = none ∨ ∃ t p, s.seq.resume = some (.travel t, p) ∧ p ≠ .putBack) : s.takeUpResume = s := by
  rcases h with h | ⟨t, p, h, hp⟩
  · simp only [Station.takeUpResume, h]
  · simp only [Station.takeUpResume, h]
    exact if_neg fun hx => hp hx.1

theorem Station.takeUpResume_command {s : Station} {c : Command} {u : Purpose} (h : s.seq.resume = some (c, u)) (hc : ∀ t, c ≠ .travel t) :
    s.takeUpResume = Station.takeUp { s with seq := { s.seq with resume := none } } c u := by
  cases c with
  | travel t => exact absurd rfl (hc t)
  | pick p => simp only [Station.takeUpResume, h]
  | place p => simp only [Station.takeUpResume, h]
  | readLabel => simp only [Station.takeUpResume, h]
  | ringCheck => simp only [Station.takeUpResume, h]
  | report => simp only [Station.takeUpResume, h]

theorem handAfter_empty (h : Hand) : handAfter h false = .empty := rfl

theorem handAfter_loaded (h : Hand) : handAfter h true ≠ .empty := by cases h <;> decide

/-- With an empty gripper, what is not taken as done leaves the station: its stage, its put-back or its move issues it again (R146). -/
theorem Station.takeUp_not_done {s : Station} {c : Command} {p : Purpose} (hh : s.seq.hand = .empty) (hc : ∀ q, c ≠ .place q) :
    s.takeUp c p = s := by
  cases c with
  | place q => exact absurd rfl (hc q)
  | pick q => simp [Station.takeUp, hh]
  | travel t => rfl
  | readLabel => rfl
  | ringCheck => rfl
  | report => rfl

theorem word_loaded {w : Word} (h : w ≠ 0) : (w != 0) = true := bne_iff_ne.2 h

/-- Settles O44. -/
theorem reportCompletes : Obligations.ReportCompletes := by
  refine ⟨by decide, ?_, fun s o => rfl, ?_⟩
  · intro s status pos loaded f hf hrep hst hok hand x emptied open_
    have row : exec (.reportCompletion status pos loaded) s = .next { s with station :=
        (s.station.commandless.reportOk pos.toNat (loaded != 0)).finish } :=
      exec_reportCompletion hf (validCode_ok hok _ _) hrep hst pos loaded
    have told_work : (x.reportPosition pos.toNat).work = x.work := x.reportPosition_work _
    have shut_work : (((open_ x).reportPosition pos.toNat).conditionCleared).work = (open_ x).work := by
      rw [Station.conditionCleared_work, Station.reportPosition_work]
    refine ⟨fun hfault hres hl hn => ?_, fun hfault hres hl hh hb hn hro hre hpark => ?_, fun g hg ha hres hl hn hc => ?_,
      fun g hg ha hl hn => ?_, fun g hg ha hl => ?_⟩
    · subst hl
      rw [row, Station.reportOk_noFault (s := s.station.commandless) hfault]
      refine next_station (congrArg Station.finish ((if_neg Bool.false_ne_true).trans ?_))
      have stays : (x.reportPosition pos.toNat).takeUpResume = x.reportPosition pos.toNat :=
        Station.takeUpResume_stays (by rw [Station.resume_of_work told_work]; exact hres)
      refine (congrArg Station.handEmptied stays).trans (Station.handEmptied_of_none ?_)
      rw [Station.handPrompt_of_work told_work, hn]
    · intro q
      have full := word_loaded hl
      rw [row, Station.reportOk_noFault (s := s.station.commandless) hfault, if_pos full]
      refine next_station (congrArg Station.finish ?_)
      have stays : (x.reportPosition pos.toNat).takeUpResume = x.reportPosition pos.toNat :=
        Station.takeUpResume_stays (.inl (by rw [Station.resume_of_work told_work]; exact hres))
      refine (congrArg Station.orphanRaise stays).trans ((Station.orphanRaise_due ?_ ?_ ?_ ?_ ?_ ?_).trans
        (Station.raiseHandLoaded_eq ?_))
      · rw [Station.hand_of_work told_work]; exact hh
      · rw [Station.putBack_of_work told_work]; exact hb
      · rw [Station.handPrompt_of_work told_work]; exact hn
      · rw [Station.handRaiseOwed_of_work told_work]; exact hro
      · rw [Station.handReportOwed_of_work told_work]; exact hre
      · rw [Station.fault_of_work told_work]; exact hfault
      · rw [Station.pos_of_work told_work]
    · subst hl
      rw [row, Station.reportOk_retry (s := s.station.commandless) hg ha]
      refine next_station (congrArg Station.finish ((if_neg Bool.false_ne_true).trans ?_))
      have bare : (((open_ x).reportPosition pos.toNat).conditionCleared).seq.handPrompt = none := by
        rw [Station.handPrompt_of_work shut_work]; exact hn
      have unresumed : (((open_ x).reportPosition pos.toNat).conditionCleared).seq.resume = none := by
        rw [Station.resume_of_work shut_work]; exact hres
      have empty : (((open_ x).reportPosition pos.toNat).conditionCleared).seq.hand = .empty := by
        rw [Station.hand_of_work shut_work]; exact handAfter_empty s.station.seq.hand
      have ends (y : Station) (hy : (((open_ x).reportPosition pos.toNat).conditionCleared).takeUp g.cmd g.purpose = y)
          (hr : y.seq.resume = none) (hp : y.seq.handPrompt = none) :
          Station.handEmptied (Station.retryDone x g pos.toNat) = emptied y := by
        have taken : Station.retryDone x g pos.toNat = y := by
          refine (congrArg Station.takeUpResume hy).trans (Station.takeUpResume_stays (.inl hr))
        rw [taken, Station.handEmptied_of_none hp]
      have not_done (hnp : ∀ q, g.cmd ≠ .place q) := ends _ (Station.takeUp_not_done empty hnp) unresumed bare
      rcases hc with hc | hc | hc | ⟨t, hc⟩ | ⟨p, hc⟩ | ⟨⟨p, hc⟩, hb⟩
      · exact not_done (by simp [hc])
      · exact not_done (by simp [hc])
      · exact not_done (by simp [hc])
      · exact not_done (by simp [hc])
      · exact not_done (by simp [hc])
      · refine ends (emptied (((open_ x).reportPosition pos.toNat).conditionCleared)) ?_ unresumed rfl
        rw [hc, hb, Station.takeUp, if_pos empty, if_pos rfl, Station.handEmptied_of_none bare]
    · subst hl
      rw [row, Station.reportOk_release (s := s.station.commandless) hg ha]
      refine next_station (congrArg Station.finish ((if_neg Bool.false_ne_true).trans ?_))
      refine Station.handEmptied_of_none (s := ((open_ x).reportPosition pos.toNat).conditionCleared) ?_
      rw [Station.handPrompt_of_work shut_work]; exact hn
    · intro q
      have full := word_loaded hl
      rw [row, Station.reportOk_release (s := s.station.commandless) hg ha, if_pos full, full]
      refine next_station (congrArg Station.finish ?_)
      have kept : (Station.reportPosition { x with seq := { x.seq with
          hand := .orphan, fault := some ⟨g.cmd, g.purpose, none, none, false, false, true⟩ } } pos.toNat).work = _ :=
        Station.reportPosition_work _ _
      have fault := (Station.fault_of_work kept).trans rfl
      have raised := Station.raiseFault_eq fault
      rw [Station.pos_of_work kept] at raised
      refine Eq.trans (congrArg Station.orphanRaise raised) (Station.orphanRaise_of_faulted ?_)
      simp
  · intro s p kind rest told y
    have told_y : y.updateRest = told y := Station.updateRest_eq (s := y) rfl
    refine ⟨fun hr => ?_, fun hr => ?_, fun m hr hm => ⟨fun hrest => ?_, fun hrest => ?_⟩, fun hr => ?_,
      Station.conditionCleared_one, fun hl hf => ?_⟩
    · rw [← told_y, Station.reportPosition, hr]
    · rw [← told_y, Station.reportPosition, hr]
    · rw [Station.reportPosition, hr, hm]
      exact if_pos hrest
    · rw [Station.reportPosition, hr, hm]
      exact if_neg hrest
    · rw [Station.reportPosition, hr]
    · intro point
      refine ⟨fun hrest => ?_, fun hrest => ?_⟩
      · rw [Station.conditionCleared_both hl hf, Station.updateRest_none hrest]
        rfl
      · rw [Station.conditionCleared_both hl hf, Station.updateRest_eq hrest]
        rfl

/-! ## What is taken as done (R146, R150) -/

@[simp] theorem Station.raiseBound_resume (s : Station) (k : PromptKind) (r : Stage) (p d : Option Nat) :
    (s.raiseBound k r p d).seq.resume = s.seq.resume := by
  unfold Station.raiseBound
  split
  · simp [Station.updateRecord]
  · rfl

/-- A DONE that is dropped at its posting has its own record's timer started, and changes nothing besides (R14, R142). -/
theorem Station.post_done_work (s : Station) (d : Done) : (s.post .sequencer 63 (.done d)).work = s.work :=
  Station.post_work (by simp [Msg.code]) _ _

theorem Station.postDone_work (s : Station) (d : Done) : (s.postDone d).work = s.work := by
  rw [Station.postDone, Station.post_done_work]
  rfl

@[simp] theorem Station.complete_resume (s : Station) : s.complete.seq.resume = s.seq.resume := by
  unfold Station.complete
  split
  · rw [Station.resume_of_work (Station.postDone_work _ _)]; rfl
  · rfl

/-- What is taken up leaves the command recorded to resume (R146). -/
theorem Station.takeUp_resume (s : Station) (c : Command) (p : Purpose) : (s.takeUp c p).seq.resume = s.seq.resume := by
  have picked : s.pickOk.seq.resume = s.seq.resume := by unfold Station.pickOk; split <;> rfl
  have emptied : s.handEmptied.seq.resume = s.seq.resume := by
    unfold Station.handEmptied; dsimp only; split
    · rw [Station.withdrawPrompt_seq]
    · rfl
  have placed : s.placeOk.seq.resume = s.seq.resume := by
    unfold Station.placeOk; split
    · rfl
    · split
      · rw [Station.complete_resume]
      · split
        · rw [Station.raiseBound_resume]
        · rfl
  unfold Station.takeUp
  repeat' split
  all_goals first | rfl | exact picked | exact emptied | exact placed

/-- The two ways a command comes to be taken up: after RETRY, or after a door release for the command recorded to resume; `x` is the
station as the REPORT has it, `y` that after the Span Unit was told (R146, R150). -/
def Station.TakesUp (x : Station) (p : Nat) (c : Command) (u : Purpose) (y : Station) : Prop :=
  (∃ g, x.seq.fault = some g ∧ g.answer = some .retry ∧ g.cmd = c ∧ g.purpose = u ∧ x.seq.resume = none ∧
      y = (Station.reportPosition { x with seq := { x.seq with fault := none } } p).conditionCleared) ∨
    (x.seq.fault = none ∧ x.seq.resume = some (c, u) ∧ (∀ t, c ≠ .travel t) ∧
      y = { x.reportPosition p with seq := { (x.reportPosition p).seq with resume := none } })

section
variable {s y : Station} {p : Nat} {loaded : Bool} {c : Command} {u : Purpose} (h : (s.located p loaded).TakesUp p c u y)
include h

/-- The command is taken up, and then the hand is seen to (R146, R150, R151). -/
theorem Station.TakesUp.reportOk : s.reportOk p loaded = if loaded then (y.takeUp c u).orphanRaise else (y.takeUp c u).handEmptied := by
  rcases h with ⟨g, hg, ha, rfl, rfl, hres, rfl⟩ | ⟨hfault, hres, hc, rfl⟩
  · rw [Station.reportOk_retry (s := s) hg ha]
    have taken : (s.located p loaded).retryDone g p = _ := Station.takeUpResume_stays (.inl (by
      rw [Station.takeUp_resume, Station.resume_of_work (Station.conditionCleared_work _),
        Station.resume_of_work (Station.reportPosition_work _ _)]
      exact hres))
    rw [taken]
  · rw [Station.reportOk_noFault (s := s) hfault]
    have recorded : ((s.located p loaded).reportPosition p).seq.resume = some (c, u) := by
      rw [Station.resume_of_work (Station.reportPosition_work _ _)]; exact hres
    rw [Station.takeUpResume_command recorded hc]

/-- What telling the Span Unit leaves of the carriage (R146, R150). -/
theorem Station.TakesUp.carriage : y.seq.hand = handAfter s.seq.hand loaded ∧ y.seq.handPrompt = s.seq.handPrompt ∧
    y.seq.pos = some p ∧ y.seq.fault = none := by
  rcases h with ⟨g, hg, ha, rfl, rfl, hres, rfl⟩ | ⟨hfault, hres, hc, rfl⟩
  · have kept := (Station.conditionCleared_work _).trans
      (Station.reportPosition_work { s.located p loaded with seq := { (s.located p loaded).seq with fault := none } } p)
    exact ⟨(Station.hand_of_work kept).trans rfl, (Station.handPrompt_of_work kept).trans rfl, (Station.pos_of_work kept).trans rfl,
      (Station.fault_of_work kept).trans rfl⟩
  · have kept := (s.located p loaded).reportPosition_work p
    exact ⟨(Station.hand_of_work kept).trans rfl, (Station.handPrompt_of_work kept).trans rfl, (Station.pos_of_work kept).trans rfl,
      (Station.fault_of_work kept).trans hfault⟩

end

theorem Station.takeUp_pick {s : Station} {r : ReqRecord} {p : Place} (u : Purpose) (hh : s.seq.hand ≠ .empty) (hr : s.seq.record = some r)
    (hs : r.stage = .picking ∨ r.stage = .detourPick) : s.takeUp (.pick p) u = if r.waiting.isSome then s else s.pickOk := by
  simp only [Station.takeUp, ne_eq, hh, not_false_eq_true, if_true, (Station.atPick_of hr).2 hs, Station.waits, hr, Option.any_some]

theorem Station.takeUp_pick_orphan {s : Station} {p : Place} (u : Purpose) (hh : s.seq.hand = .orphan) (hr : s.seq.record = none) :
    s.takeUp (.pick p) u = s.orphaned p := by
  simp [Station.takeUp, hh, Station.atPick, hr]

theorem Station.takeUp_place {s : Station} {r : ReqRecord} {p : Place} {u : Purpose} (hh : s.seq.hand = .empty) (hu : u ≠ .putBack)
    (hr : s.seq.record = some r) : s.takeUp (.place p) u = if r.waiting.isSome then s else s.placeOk := by
  simp only [Station.takeUp, hh, if_true, hu, if_false, Station.waits, hr, Option.any_some]

theorem Station.takeUp_loaded {s : Station} {c : Command} {u : Purpose} (hh : s.seq.hand ≠ .empty)
    (hc : c = .readLabel ∨ c = .ringCheck ∨ ∃ p, c = .place p) : s.takeUp c u = s := by
  rcases hc with rfl | rfl | ⟨p, rfl⟩
  · rfl
  · rfl
  · exact if_neg hh

/-- The hand is EMPTY already. -/
theorem Station.with_hand_empty {s : Station} (h : s.seq.hand = .empty) : ({ s with seq := { s.seq with hand := .empty } } : Station) = s := by
  rw [← h]

/-- Settles O45. -/
theorem commandIsTakenUp : Obligations.CommandIsTakenUp := by
  intro s status pos loaded f c u y hf hrep hst hok hand x shut told taken emptied
  have takes : (s.station.commandless.located pos.toNat (loaded != 0)).TakesUp pos.toNat c u y := taken
  obtain ⟨hhand, hprompt, hpos, hfault⟩ := takes.carriage
  have row {z : Station} (hz : (if (loaded != 0) = true then (y.takeUp c u).orphanRaise else (y.takeUp c u).handEmptied) = z) :
      exec (.reportCompletion status pos loaded) s = .next { s with station := z.finish } := by
    rw [← hz, ← takes.reportOk]
    exact exec_reportCompletion hf (validCode_ok hok _ _) hrep hst pos loaded
  have full_row (hl : loaded ≠ 0) {z w : Station} (hz : y.takeUp c u = z) (hw : z.orphanRaise = w) :
      exec (.reportCompletion status pos loaded) s = .next { s with station := w.finish } :=
    row ((if_pos (word_loaded hl)).trans (by rw [hz, hw]))
  have empty_row (hl : loaded = 0) {z : Station} (hz : y.takeUp c u = z) (hp : z.seq.handPrompt = none) :
      exec (.reportCompletion status pos loaded) s = .next { s with station := (emptied z).finish } :=
    row ((if_neg (by rw [hl]; exact Bool.false_ne_true)).trans (by rw [hz]; exact Station.handEmptied_of_none hp))
  have filled (hl : loaded ≠ 0) : y.seq.hand ≠ .empty := by
    rw [hhand, word_loaded hl]; exact handAfter_loaded _
  have bare (hl : loaded = 0) : y.seq.hand = .empty := by
    rw [hhand, hl]; exact handAfter_empty s.station.seq.hand
  refine ⟨fun place r call hc hl hr hstage hw hcall => ?_, fun place hc hl hh hr => ?_,
    fun place r call hc hu hl hn hr hw hcall => ⟨fun hstage hroom => ?_, fun hstage => ?_⟩,
    fun r k hr hw => ⟨fun place hc hu hl hn => ?_, fun place hc hstage hl => ⟨fun hh => ?_, fun hh hb hp hro hre => ?_⟩⟩,
    fun hc hl hn => ?_, fun hc hl hh => ?_⟩
  · refine full_row hl ?_ (Station.orphanRaise_of_hand (by simp))
    rw [hc, Station.takeUp_pick u (filled hl) hr hstage, if_neg (by rw [hw]; exact Bool.false_ne_true)]
    exact Station.pickOk_eq hr hcall
  · refine full_row hl ?_ (Station.orphanRaise_of_putBack (by simp))
    have orphan : y.seq.hand = .orphan := hhand.trans hh
    rw [hc, Station.takeUp_pick_orphan u orphan hr, Station.orphaned, ← orphan]
  · intro d
    have done_eq : doneOf call r.outcome r.assisted = d := rfl
    refine empty_row hl (z := Station.post { y with seq := { y.seq with
      record := some { r with stage := .completing, waiting := none, prompt := none }, doneList := y.seq.doneList ++ [⟨d, none⟩] } }
        .sequencer 63 (.done d)) ?_ ?_
    · rw [hc, Station.takeUp_place (bare hl) hu hr, if_neg (by rw [hw]; exact Bool.false_ne_true)]
      rw [Station.placeOk_placing hr hstage, Station.with_hand_empty (bare hl), Station.complete_eq hr hcall, done_eq]
      exact Station.postDone_of_room (s := { y with seq := { y.seq with
        record := some { r with stage := .completing, waiting := none, prompt := none } } }) hroom d
    · rw [Station.handPrompt_of_work (Station.post_done_work _ _)]
      exact hprompt.trans hn
  · intro q
    refine empty_row hl ?_ ?_ (z := { q.1 with seq := { q.1.seq with
      record := q.1.seq.record.map fun v => { v with stage := .detourPick, waiting := some .ringNeeded, prompt := q.2 } } })
    · rw [hc, Station.takeUp_place (bare hl) hu hr, if_neg (by rw [hw]; exact Bool.false_ne_true)]
      rw [Station.placeOk_detour hr hstage, Station.with_hand_empty (bare hl)]
      exact Station.raiseBound_eq hr hcall ..
    · have kept : q.1.seq = y.seq := Station.raise_seq ..
      exact (congrArg Sequencer.handPrompt kept).trans (hprompt.trans hn)
  · refine empty_row hl ?_ (hprompt.trans hn)
    rw [hc, Station.takeUp_place (bare hl) hu hr, hw]
    rfl
  · refine full_row hl ?_ (Station.orphanRaise_of_hand (s := y) (by rw [hhand]; exact fun h => absurd (hh.symm.trans h) nofun))
    rw [hc, Station.takeUp_pick u (filled hl) hr hstage, hw]
    rfl
  · intro q
    refine full_row hl (z := y) ?_ ((Station.orphanRaise_due (hhand.trans hh) hb hp hro hre hfault).trans (Station.raiseHandLoaded_eq hpos))
    rw [hc, Station.takeUp_pick u (filled hl) hr hstage, hw]
    rfl
  · refine empty_row hl (Station.takeUp_not_done (bare hl) fun q hq => ?_) (hprompt.trans hn)
    rcases hc with rfl | rfl | ⟨p, rfl⟩ <;> cases hq
  · exact full_row hl (Station.takeUp_loaded (filled hl) hc)
      (Station.orphanRaise_of_hand (s := y) (by rw [hhand]; exact fun h => absurd (hh.symm.trans h) nofun))

end Sys2Proof.Machine
end

section
/-! SUPPORT and PROOFS. Faults, the door, and what HELD or FAULTED ends (O46, O47). -/

namespace Sys2Proof.Machine

/-! ## What HELD or FAULTED ends (R107) -/

/-- The Span Unit's record after HELD or FAULTED became set, but for its restatement timer and its nudge records (R107). -/
theorem Station.holdSpan_stand (s : Station) : s.holdSpan.stand = { s.stand with
    held := [], own := s.heldOwn, rest := if s.span.reservation = .granted then none else s.span.rest, reservation := .parked,
    move := none, retries := 0, waitTimer := none, firstFree := false, railLatch := false, railPrompt := none } := by
  have cleared (y : Station) : y.clearRailBlocked.stand = { y.stand with railLatch := false, railPrompt := none } := by
    unfold Station.clearRailBlocked
    dsimp only
    split
    · rw [Station.stand, Station.withdrawPrompt_span]; rfl
    · rfl
  unfold Station.holdSpan
  dsimp only
  rw [cleared, Station.postOwn_stand (by simp [Station.parkReservation])]
  split <;> rfl

/-- Settles O47. -/
theorem doorAndHold : Obligations.DoorAndHold := by
  refine ⟨?_, ?_⟩
  · intro s o ho y
    have stand := s.holdSpan_stand
    have own : y.span.own = s.heldOwn := congrArg SpanUnit.own stand
    have rest : y.span.rest = if s.span.reservation = .granted then none else s.span.rest := congrArg SpanUnit.rest stand
    refine ⟨congrArg SpanUnit.reservation stand, congrArg SpanUnit.move stand, congrArg SpanUnit.retries stand,
      congrArg SpanUnit.waitTimer stand, congrArg SpanUnit.held stand, congrArg SpanUnit.railLatch stand,
      congrArg SpanUnit.railPrompt stand, (congrArg SpanUnit.peers stand :), congrArg Base.ctl s.holdSpan_basis,
      congrArg Base.store s.holdSpan_basis, fun hr => ⟨by rw [rest, if_pos hr], ?_⟩, fun hr => ⟨by rw [rest, if_neg hr], ?_, ?_⟩⟩
    · rw [own, Station.heldOwn, hr, ho]; rfl
    · intro p hp
      rw [own]
      cases hres : s.span.reservation with
      | granted => exact absurd hres hr
      | parked | waiting | asking => rw [Station.heldOwn, hres, hp]; rfl
    · intro hp
      rw [own]
      cases hres : s.span.reservation with
      | granted => exact absurd hres hr
      | parked | waiting | asking => rw [Station.heldOwn, hres, hp, ho]; rfl
  · intro s x opened timed
    have shut (hd : x.pins.door = false) : exec .doorOpen s = .next { s with station :=
        if x.ctl.mode = .ready ∧ x.seq.doorLatch = false then opened.setLatch.finish else opened } :=
      next_station (if_neg (by rw [hd]; exact Bool.false_ne_true))
    refine ⟨fun hd hno => ?_, fun hd hm hl hcmd => ?_, fun f hd hm hl hcmd hc hstop => ?_, rfl, fun ht => ?_⟩
    · rw [shut hd, if_neg]
      rintro ⟨hm, hl⟩
      rcases hno with h | h
      · exact h hm
      · exact absurd (hl.symm.trans h) nofun
    · rw [shut hd, if_pos ⟨hm, hl⟩]
      exact next_station (congrArg (fun z => (Station.holdSpan z).finish) (Station.sendStop_of_none (s := timed opened) hcmd _))
    · rw [shut hd, if_pos ⟨hm, hl⟩]
      exact next_station (congrArg (fun z => (Station.holdSpan z).finish) (Station.sendStop_door (s := timed opened) hcmd hc hstop))
    · intro y
      have row {z : Station} (hz : x.doorTimerEnd = z) : exec .doorRaiseTimer s = .next { s with station := z.finish } := by
        rw [← hz]
        exact next_station (if_pos (congrArg expired ht))
      refine ⟨fun hno => row (if_neg ?_), fun hl hh => ?_⟩
      · rcases hno with h | h <;> simp [h]
      · intro q
        exact row (if_pos (by simp [hl, hh]))

/-! ## The entry of a raise (R155) -/

/-- Numbers, kinds and fields of the prompt list. -/
def Station.stated (s : Station) : List (Nat × PromptKind × PromptFields) := s.prm.list.map fun e => (e.num, e.kind, e.fields)

/-- A change of entries that keeps number, kind and fields. -/
theorem stated_map {l : List PromptEntry} {f : PromptEntry → PromptEntry}
    (h : ∀ e, ((f e).num, (f e).kind, (f e).fields) = (e.num, e.kind, e.fields)) :
    (l.map f).map (fun e => (e.num, e.kind, e.fields)) = l.map fun e => (e.num, e.kind, e.fields) := by
  rw [List.map_map]
  exact List.map_congr_left fun e _ => h e

theorem Station.updatePrompt_stated (s : Station) (n : Nat) {f : PromptEntry → PromptEntry}
    (h : ∀ e, ((f e).num, (f e).kind, (f e).fields) = (e.num, e.kind, e.fields)) : (s.updatePrompt n f).stated = s.stated :=
  stated_map fun e => by split; exacts [h e, rfl]

@[simp] theorem Station.promptDropped_stated (s : Station) (n : Nat) (l : Option Level) : (s.promptDropped n l).stated = s.stated :=
  stated_map fun e => by split <;> rfl

@[simp] theorem Station.handOver_stated (s : Station) (t : Tag) : (s.handOver t).stated = s.stated := by
  unfold Station.handOver; split <;> rfl

@[simp] theorem Station.leaveOwned_stated (s : Station) (t : Tag) : (s.leaveOwned t).stated = s.stated := by
  unfold Station.leaveOwned; dsimp only; repeat' split
  · rw [Station.handOver_stated]; rfl
  · rfl
  · rfl

@[simp] theorem Station.takeDropped_stated (s : Station) (t : Tag) (c : Nat) : (s.takeDropped t c).stated = s.stated := by
  unfold Station.takeDropped; repeat' split
  · rw [Station.leaveOwned_stated]; rfl
  · rfl
  · rfl

@[simp] theorem Station.spanDropped_stated (s : Station) (b : Bool) : (s.spanDropped b).stated = s.stated := by
  unfold Station.spanDropped; split
  · dsimp only
    rw [Station.ownToRest_eq]; rfl
  · rfl

@[simp] theorem Station.reportDrop_stated (s : Station) (f : Frame) (newer : List Frame) : (s.reportDrop f newer).stated = s.stated := by
  unfold Station.reportDrop; dsimp only; repeat' split
  all_goals first | rfl | exact s.takeDropped_stated _ _ | exact s.spanDropped_stated _ | exact s.promptDropped_stated _ _

@[simp] theorem Station.post_stated (s : Station) (b : Block) (d : Nat) (m : Msg) : (s.post b d m).stated = s.stated := by
  unfold Station.post Station.settle; split
  · rfl
  · rw [Station.reportDrop_stated]; rfl

@[simp] theorem Station.statePrompt_stated (s : Station) (n : Nat) : (s.statePrompt n).stated = s.stated := by
  have quiet := s.updatePrompt_stated n (f := fun e => { e with heard := false, resend := none, drop := .none }) fun _ => rfl
  unfold Station.statePrompt; dsimp only; split
  · rw [Station.post_stated, quiet]
  · exact quiet

@[simp] theorem Station.showPrompt_stated (s : Station) (n : Nat) : (s.showPrompt n).stated = s.stated := by
  rw [Station.showPrompt, Station.statePrompt_stated]
  exact s.updatePrompt_stated n fun _ => rfl

@[simp] theorem Station.chooseShown_stated (s : Station) : s.chooseShown.stated = s.stated := by
  unfold Station.chooseShown; split
  · exact s.showPrompt_stated _
  · rfl

@[simp] theorem Station.offerShown_stated (s : Station) (n : Nat) (l : Level) : (s.offerShown n l).stated = s.stated := by
  unfold Station.offerShown; repeat' split
  · exact s.chooseShown_stated
  · rw [Station.preempt, Station.showPrompt_stated, Station.postClear, Station.post_stated]
    exact s.updatePrompt_stated _ fun _ => rfl
  · rfl

/-- An accepted raise has its entry at the end of the list (R155). -/
theorem Station.acceptRaise_stated (s : Station) (k : PromptKind) (f : PromptFields) :
    (s.acceptRaise k f).1.stated = s.stated ++ [((s.acceptRaise k f).2, k, f)] := by
  rw [Station.acceptRaise]
  refine (Station.offerShown_stated _ _ _).trans ?_
  exact List.map_append

/-- The number of an accepted raise is that of an entry of its kind and fields (R155). -/
theorem Station.exists_raised {s : Station} {k : PromptKind} {f : PromptFields} {n : Nat} (h : (s.raise k f).2 = some n) :
    ∃ e ∈ (s.raise k f).1.prm.list, e.num = n ∧ e.kind = k ∧ e.fields = f := by
  have accepted (y : Station) : ∃ e ∈ (y.acceptRaise k f).1.prm.list, e.num = (y.acceptRaise k f).2 ∧ e.kind = k ∧ e.fields = f := by
    have last : ((y.acceptRaise k f).2, k, f) ∈ (y.acceptRaise k f).1.stated := by rw [Station.acceptRaise_stated]; simp
    obtain ⟨e, he, heq⟩ := List.mem_map.1 last
    obtain ⟨hn, hrest⟩ := Prod.mk.inj heq
    obtain ⟨hk, hf⟩ := Prod.mk.inj hrest
    exact ⟨e, he, hn, hk, hf⟩
  revert h
  unfold Station.raise
  split
  · intro h; cases h; exact accepted s
  · split
    · intro h; cases h; exact accepted _
    · nofun

/-! ## Opening a fault (R126, R144) -/

theorem Station.completes_none {s : Station} {code : Nat} {status : Word}
    (h : ∀ f, s.seq.cmd = some f → f.cmd.code ≠ code ∨ status.toNat / 256 % 16 ≠ code) : s.completes code status = none := by
  unfold Station.completes
  split
  · rfl
  next f hf =>
    refine if_neg fun ⟨hc, hst⟩ => ?_
    exact (h f hf).elim (fun h => h hc) fun h => h hst

theorem next_onCompletion_none {s : State} {code : Nat} {status : Word}
    (h : ∀ f, s.station.seq.cmd = some f → f.cmd.code ≠ code ∨ status.toNat / 256 % 16 ≠ code) (g : Code → InFlight → Station → Station) :
    (s.act fun x => x.onCompletion code status g) = .next s := by
  rw [State.act_eq, Station.onCompletion, Station.completes_none h]

theorem statusCode_fault {w : Word} (h : 4 ≤ w.toNat % 8) : statusCode w = .fault := by
  have : w.toNat % 8 < 8 := Nat.mod_lt _ (by decide)
  unfold statusCode
  split <;> first | rfl | omega

/-- A code of 4 to 7, and one that is not valid for the command, are taken as FAULT (R126). -/
theorem validCode_fault {w : Word} {c : Command} {b : Bool} (h : 4 ≤ w.toNat % 8 ∨ (w.toNat % 8 = 1 ∧ c.code ≠ 2) ∨
    (w.toNat % 8 = 2 ∧ c.code ≠ 3) ∨ (w.toNat % 8 = 3 ∧ b = false)) : validCode c b (statusCode w) = .fault := by
  rcases h with h | ⟨h, hc⟩ | ⟨h, hc⟩ | ⟨h, rfl⟩
  · rw [statusCode_fault h]; rfl
  · rw [statusCode_empty h]
    cases c <;> first | rfl | exact absurd rfl hc
  · rw [statusCode_occupied h]
    cases c <;> first | rfl | exact absurd rfl hc
  · rw [statusCode_stopped h]; rfl

/-- A FAULT completion opens a fault for its command, whichever it is (R144). -/
theorem Station.placeEnd_fault (s : Station) (f : InFlight) (p : Place) : s.placeEnd f p .fault = s.openFault f.cmd f.purpose := by
  unfold Station.placeEnd
  split <;> rfl

theorem exec_completion_fault {s : State} {i : Instr} {code : Nat} {status : Word} (hi : completionRow i = some (code, status)) {f : InFlight}
    (hf : s.station.seq.cmd = some f) (hn : f.cmd.code = code) (hst : status.toNat / 256 % 16 = code)
    (hc : validCode f.cmd f.causes.isSome (statusCode status) = .fault) :
    exec i s = .next { s with station :=
      (Station.openFault { s.station with seq := { s.station.seq with cmd := none } } f.cmd f.purpose).finish } := by
  unfold completionRow at hi
  split at hi
  · cases hi
    obtain ⟨t, ht⟩ : ∃ t, f.cmd = .travel t := by cases h : f.cmd <;> simp [Command.code, h] at hn ⊢
    exact exec_travelCompletion hf hc ht hst
  · cases hi
    obtain ⟨p, hp⟩ : ∃ p, f.cmd = .pick p := by cases h : f.cmd <;> simp [Command.code, h] at hn ⊢
    exact exec_pickCompletion hf hc hp hst
  · cases hi
    obtain ⟨p, hp⟩ : ∃ p, f.cmd = .place p := by cases h : f.cmd <;> simp [Command.code, h] at hn ⊢
    rw [exec_placeCompletion hf hc hp hst, Station.placeEnd_fault]
  · cases hi
    have hl : f.cmd = .readLabel := by cases h : f.cmd <;> simp [Command.code, h] at hn ⊢
    exact exec_readLabelCompletion hf hc hl hst ..
  · cases hi
    have hr : f.cmd = .ringCheck := by cases h : f.cmd <;> simp [Command.code, h] at hn ⊢
    exact exec_ringCheckCompletion hf hc hr hst _
  · cases hi
    have hr : f.cmd = .report := by cases h : f.cmd <;> simp [Command.code, h] at hn ⊢
    exact exec_reportCompletion hf hc hr hst ..
  · cases hi

theorem exec_completion_none {s : State} {i : Instr} {code : Nat} {status : Word} (hi : completionRow i = some (code, status))
    (h : ∀ f, s.station.seq.cmd = some f → f.cmd.code ≠ code ∨ status.toNat / 256 % 16 ≠ code) : exec i s = .next s := by
  unfold completionRow at hi
  split at hi <;> cases hi <;> exact next_onCompletion_none h _

theorem Station.openFault_moving {s : Station} (c : Command) (p : Purpose) {o : OwnSpan} (hf : s.seq.fault = none) (ho : s.span.own = some o) :
    s.openFault c p = (Station.holdSpan { s with seq := { s.seq with
      cmd := none, stop := none, fault := some ⟨c, p, none, none, false, false, false⟩,
      resume := if s.seq.resume = some (c, p) then none else s.seq.resume, posKnown := s.seq.posKnown && !c.isTravel } }).raiseFault := by
  have closed : ¬ s.faulted = true := by rw [Station.faulted, hf]; exact Bool.false_ne_true
  simp only [Station.openFault, if_neg closed, ho, reduceCtorEq, if_false]

theorem Station.openFault_learning {s : Station} (c : Command) (p : Purpose) (hf : s.seq.fault = none) (ho : s.span.own = none) :
    s.openFault c p = (Station.learningFault { s with seq := { s.seq with
      cmd := none, stop := none, fault := some ⟨c, p, none, none, false, false, false⟩,
      resume := if s.seq.resume = some (c, p) then none else s.seq.resume, posKnown := s.seq.posKnown && !c.isTravel } }).raiseFault := by
  have closed : ¬ s.faulted = true := by rw [Station.faulted, hf]; exact Bool.false_ne_true
  simp only [Station.openFault, if_neg closed, ho, if_true]

/-- CARRIAGE-FAULT raised: the fault record has its number or owes the raise, and the entry carries the tag of the ACTIVE request (R144). -/
theorem Station.raiseFault_seq {s : Station} {f : FaultRecord} (h : s.seq.fault = some f) : ∃ num,
    s.raiseFault.seq = { s.seq with fault := some { f with prompt := num, raiseOwed := num.isNone } } ∧ s.raiseFault.span = s.span ∧
    ∀ n, num = some n → ∃ e ∈ s.raiseFault.prm.list, e.num = n ∧ e.kind = .carriageFault ∧
      e.fields.tag = if f.noTag then none else s.req.active := by
  refine ⟨(s.raise .carriageFault ⟨if f.noTag then none else s.req.active, none, some (s.seq.pos.getD 0), none, none⟩).2, ?_, ?_, fun n hn => ?_⟩
  · rw [Station.raiseFault_eq h]
    dsimp only
    rw [Station.raise_seq]
  · rw [Station.raiseFault_eq h]
    dsimp only
    rw [Station.raise_span]
  · obtain ⟨e, he, hnum, hkind, hfields⟩ := Station.exists_raised hn
    rw [Station.raiseFault_eq h]
    exact ⟨e, he, hnum, hkind, congrArg PromptFields.tag hfields⟩

/-- Settles O46. -/
theorem faultsOpen : Obligations.FaultsOpen := by
  refine ⟨fun s i code status hi => ⟨exec_completion_none hi, fun f hf hn hst hcode => exec_completion_fault hi hf hn hst (validCode_fault ?_)⟩,
    fun s => ⟨fun f hf ht => ?_, fun r hr ht hcmd => ?_, fun r status hr hst => ?_, fun status hno => ?_⟩, fun s c p o hfault ho => ?_,
    fun s p hfault ho => ?_⟩
  · subst hn
    exact hcode.imp id (.imp id (.imp id fun ⟨h, hc⟩ => ⟨h, by rw [hc]; rfl⟩))
  · obtain ⟨c, p, n, k, o⟩ := f
    cases ht
    exact next_station (by simp only [Station.onCommandTimeout, hf])
  · obtain ⟨n, c, p⟩ := r
    cases ht
    refine next_station ?_
    unfold Station.onCommandTimeout
    split
    · rename_i hc
      exact absurd rfl (hcmd _ hc)
    · rename_i hs _
      cases hr.symm.trans hs
      rfl
    · rename_i hno
      exact absurd hr (hno _ _)
  · refine next_station ((if_pos ?_).trans (congrArg Station.finish ?_))
    · simp [hr, statusCommand, hst]
    · rw [Station.stopEnd, hr]
      refine if_congr ?_ rfl rfl
      unfold statusCode
      split <;> simp_all
  · refine next_station (if_neg ?_)
    rw [Bool.and_eq_true, decide_eq_true_iff]
    rintro ⟨hs, hc⟩
    rcases hno with h | h
    · rw [h] at hs; exact absurd hs nofun
    · exact h hc
  · intro y
    have opened := Station.openFault_moving c p hfault ho
    have kept := Station.holdSpan_work { s with seq := { s.seq with
      cmd := none, stop := none, fault := some ⟨c, p, none, none, false, false, false⟩,
      resume := if s.seq.resume = some (c, p) then none else s.seq.resume, posKnown := s.seq.posKnown && !c.isTravel } }
    have stand := Station.holdSpan_stand { s with seq := { s.seq with
      cmd := none, stop := none, fault := some ⟨c, p, none, none, false, false, false⟩,
      resume := if s.seq.resume = some (c, p) then none else s.seq.resume, posKnown := s.seq.posKnown && !c.isTravel } }
    obtain ⟨num, hseq, hspan, hentry⟩ := Station.raiseFault_seq ((Station.fault_of_work kept).trans rfl)
    rw [← opened] at hseq hspan hentry
    have unmoved : y.seq.posKnown = (s.seq.posKnown && !c.isTravel) :=
      (congrArg Sequencer.posKnown hseq :).trans (congrArg (·.1.posKnown) kept :)
    have active : _ = s.req.active := (congrArg (·.2.1) kept :)
    refine ⟨(congrArg Sequencer.cmd hseq :).trans (congrArg (·.1.cmd) kept :), (congrArg Sequencer.stop hseq :).trans (congrArg (·.1.stop) kept :),
      ⟨num, (congrArg Sequencer.fault hseq :), fun n hn => ?_⟩, ?_, (congrArg Sequencer.hand hseq :).trans (congrArg (·.1.hand) kept :),
      (congrArg Sequencer.record hseq :).trans (congrArg (·.1.record) kept :),
      (congrArg Sequencer.resume hseq :).trans (congrArg (·.1.resume) kept :),
      (congrArg SpanUnit.reservation hspan :).trans (congrArg SpanUnit.reservation stand :),
      (congrArg SpanUnit.move hspan :).trans (congrArg SpanUnit.move stand :),
      (congrArg SpanUnit.held hspan :).trans (congrArg SpanUnit.held stand :)⟩
    · obtain ⟨e, he, hnum, hkind, htag⟩ := hentry n hn
      exact ⟨e, he, hnum, hkind, htag.trans active⟩
    · rw [unmoved]
      cases c <;> simp [Command.isTravel]
  · intro lo hi y q
    have opened := Station.openFault_learning .report p hfault ho
    have unmoved : (s.seq.posKnown && !Command.report.isTravel) = s.seq.posKnown := Bool.and_true _
    rw [unmoved] at opened
    have y_eq : Station.learningFault { s with seq := { s.seq with
        cmd := none, stop := none, fault := some ⟨.report, p, none, none, false, false, false⟩,
        resume := if s.seq.resume = some (.report, p) then none else s.seq.resume } } = y := rfl
    have kept : y.work = _ := Station.stateOwn_work _ _
    rw [opened, y_eq, Station.raiseFault_eq ((Station.fault_of_work kept).trans rfl), Station.pos_of_work kept]
    rfl

end Sys2Proof.Machine
end

section
/-! SUPPORT and PROOFS. A request dropped, and RELEASE carried out (O49). -/

namespace Sys2Proof.Machine

/-! ## A drop (R115, R143) -/

theorem Station.dropRequest_other {s : Station} {t : Tag} (h : ∀ r, s.seq.record = some r → r.tag ≠ t) : s.dropRequest t = s := by
  unfold Station.dropRequest
  split
  · rfl
  next r hr => exact if_pos (h r hr)

/-- The prompt of a request in WAIT-OPERATOR is withdrawn (R143). -/
def Station.dropPrompt (s : Station) (r : ReqRecord) : Station :=
  match r.waiting, r.prompt with
  | some _, some num => s.withdrawPrompt .sequencer num
  | _, _ => s

/-- A stage's move is given up (R115). -/
def Station.dropMove (s : Station) : Station := if s.span.move.any fun m => m.purpose == .stage then s.giveUpMove else s

/-- A stage's command in flight is marked (R143). -/
def Station.dropMarked (s : Station) : Station := { s with seq := { s.seq with cmd := s.seq.cmd.map InFlight.dropped } }

/-- A stage's command in flight is marked, and a stage's TRAVEL stopped (R143). -/
def Station.dropCommand (s : Station) : Station :=
  if s.dropMarked.seq.stageTravels then s.dropMarked.sendStop ⟨false, false, true⟩ else s.dropMarked

/-- The record is cleared, and a stage's command to resume (R143). -/
def Station.dropRecord (s : Station) : Station := { s with seq := { s.seq with
  record := none, moveRefused := false, resume := if s.seq.resume.any fun x => x.2 == .stage then none else s.seq.resume } }

theorem Station.dropRequest_eq {s : Station} {r : ReqRecord} (h : s.seq.record = some r) :
    s.dropRequest r.tag = (s.dropPrompt r).dropMove.dropCommand.dropRecord := by
  unfold Station.dropRequest
  rw [h]
  exact if_neg (not_not_intro rfl)

theorem Station.dropPrompt_none {s : Station} {r : ReqRecord} (h : r.waiting = none ∨ r.prompt = none) : s.dropPrompt r = s := by
  unfold Station.dropPrompt
  split
  next hw hp => rcases h with h | h <;> simp_all
  next => rfl

theorem Station.dropPrompt_some {s : Station} {r : ReqRecord} {num : Nat} (hw : r.waiting ≠ none) (hp : r.prompt = some num) :
    s.dropPrompt r = s.withdrawPrompt .sequencer num := by
  obtain ⟨k, hk⟩ := Option.ne_none_iff_exists'.1 hw
  simp only [Station.dropPrompt, hk, hp]

theorem Station.dropMove_of_not {s : Station} (h : ∀ m, s.span.move = some m → m.purpose ≠ .stage) : s.dropMove = s := by
  refine if_neg fun hx => ?_
  obtain ⟨m, hm, hp⟩ := Option.any_eq_true _ _ |>.1 hx
  exact h m hm (beq_iff_eq.1 hp)

theorem Station.dropMove_stage {s : Station} {m : Move} (hm : s.span.move = some m) (hp : m.purpose = .stage) : s.dropMove = s.giveUpMove :=
  if_pos (by simp [hm, hp])

/-- Of a move in GRANTED only the purpose changes, one in PARKED stays, and one of no stage too (R115). -/
theorem Station.dropMove_eq {s : Station}
    (h : s.span.reservation = .granted ∨ s.span.reservation = .parked ∨ ∀ m, s.span.move = some m → m.purpose ≠ .stage) :
    s.dropMove = if s.span.reservation = .granted then { s with span := { s.span with
      move := s.span.move.map fun m => if m.purpose = .stage then { m with purpose := .dropped } else m } } else s := by
  by_cases stage : ∃ m, s.span.move = some m ∧ m.purpose = .stage
  · obtain ⟨m, hm, hp⟩ := stage
    rw [Station.dropMove_stage hm hp]
    rcases h with h | h | h
    · rw [if_pos h]
      simp only [Station.giveUpMove, h, hm, Option.map_some, if_pos hp]
      rfl
    · rw [if_neg (by simp [h])]
      simp only [Station.giveUpMove, h]
    · exact absurd hp (h m hm)
  · have other (m : Move) (hm : s.span.move = some m) : m.purpose ≠ .stage := fun hp => stage ⟨m, hm, hp⟩
    rw [Station.dropMove_of_not other]
    split
    · cases hm : s.span.move with
      | none => rw [Option.map_none, ← hm]
      | some m => rw [Option.map_some, if_neg (other m hm), ← hm]
    · rfl

theorem Station.dropMarked_none {s : Station} (h : s.seq.cmd = none) : s.dropMarked = s := by
  unfold Station.dropMarked
  rw [h, Option.map_none, ← h]

theorem Station.dropMarked_some {s : Station} {f : InFlight} (h : s.seq.cmd = some f) :
    s.dropMarked = { s with seq := { s.seq with cmd := some f.dropped } } := by
  unfold Station.dropMarked
  rw [h, Option.map_some]

theorem InFlight.dropped_stage {f : InFlight} (h : f.purpose = .stage) : f.dropped = { f with orphan := true } := if_pos h

theorem Station.dropCommand_none {s : Station} (h : s.seq.cmd = none) : s.dropCommand = s := by
  rw [Station.dropCommand, Station.dropMarked_none h, if_neg (by simp [Sequencer.stageTravels, h])]

/-- A command of no stage goes on as it is (R143). -/
theorem Station.dropCommand_other {s : Station} {f : InFlight} (h : s.seq.cmd = some f) (hp : f.purpose ≠ .stage) : s.dropCommand = s := by
  have same : f.dropped = f := if_neg hp
  have kept : s.dropMarked = s := by rw [Station.dropMarked_some h, same, ← h]
  rw [Station.dropCommand, kept, if_neg (by simp [Sequencer.stageTravels, h, hp])]

/-- A stage's command but a TRAVEL completes for no request (R143). -/
theorem Station.dropCommand_stage {s : Station} {f : InFlight} (h : s.seq.cmd = some f) (hp : f.purpose = .stage)
    (ht : ∀ d, f.cmd ≠ .travel d) : s.dropCommand = { s with seq := { s.seq with cmd := some { f with orphan := true } } } := by
  have marked := (Station.dropMarked_some h).trans (by rw [InFlight.dropped_stage hp])
  refine (if_neg fun going => ?_).trans marked
  rw [marked, Sequencer.stageTravels, Bool.and_eq_true, Sequencer.travelling_iff] at going
  obtain ⟨⟨g, d, hg, hd⟩, -⟩ := going
  cases hg
  exact ht d hd

/-- A stage's TRAVEL has STOP issued besides, unless one is outstanding (R128, R143). -/
theorem Station.dropCommand_travel {s : Station} {f : InFlight} {d : Nat} (h : s.seq.cmd = some f) (hp : f.purpose = .stage)
    (ht : f.cmd = .travel d) : s.dropCommand = { s with seq := { s.seq with
      cmd := some { f with
        orphan := true
        causes := some (match f.causes with | some c => StopCauses.mk c.door c.lost true | none => ⟨false, false, true⟩) },
      stop := if s.seq.stop = none then some ⟨100, .travel d, .stage⟩ else s.seq.stop } } := by
  have marked := (Station.dropMarked_some h).trans (by rw [InFlight.dropped_stage hp])
  have going : s.dropMarked.seq.stageTravels = true := by
    rw [marked, Sequencer.stageTravels, Sequencer.travelling_iff.2 ⟨{ f with orphan := true }, d, rfl, ht⟩]
    simp [hp]
  have causes : some ((f.causes.getD ⟨false, false, false⟩).union ⟨false, false, true⟩) =
      some (match f.causes with | some c => StopCauses.mk c.door c.lost true | none => ⟨false, false, true⟩) := by
    cases f.causes <;> simp [StopCauses.union]
  rw [Station.dropCommand, if_pos going, marked]
  simp only [Station.sendStop, causes, ht, hp]
  cases s.seq.stop <;> rfl

/-! ## RELEASE (R147) -/

theorem Station.mem_abandonable {s : Station} {t : Tag} : t ∈ s.abandonable ↔
    t ∈ s.req.owned ∧ (∃ e, s.req.find t = some e ∧ e.state = .owned) ∧ ∀ d ∈ s.seq.doneList, d.done.tag ≠ t := by
  rw [Station.abandonable, List.mem_filter, Bool.and_eq_true, RequestUnit.owns_iff]
  simp [Sequencer.doneWaiting]

theorem removeDropped_between {req : RequestUnit} {front back : List DoneRecord} {x : DoneRecord} (hx : req.owns x.done.tag = false)
    (hf : ∀ v ∈ front, req.owns v.done.tag = true) : removeDropped req (front ++ x :: back) = front ++ back := by
  induction front with
  | nil => simp [removeDropped, hx]
  | cons v vs ih =>
    obtain ⟨hv, hvs⟩ := List.forall_mem_cons.1 hf
    rw [List.cons_append, removeDropped, if_pos hv, ih hvs]
    rfl

theorem Station.serveHeld_of_none {s : Station} (h : s.span.held = []) : s.serveHeld = s := by
  unfold Station.serveHeld
  split
  · rw [if_neg (by simp [h])]
  · rfl

/-- With nothing granted and no nudge in hand, the next step is that of the stages and faults, unless the door latch holds it (R130). -/
theorem Station.chooseNext_resting {s : Station} (hm : s.ctl.mode = .ready) (hc : s.seq.cmd = none) (hs : s.seq.stop = none)
    (hg : s.span.reservation ≠ .granted ∨ s.span.move = none) (hh : s.span.held = [])
    (hn : ∀ m, s.span.move = some m → m.purpose ≠ .nudge) : s.chooseNext = if s.seq.doorLatch then s else s.nextStep := by
  have free : s.seq.idle = true := by simp [Sequencer.idle, hc, hs]
  have none_served : s.span.serving = false := by
    rw [← Bool.not_eq_true, SpanUnit.serving_iff]
    rintro ⟨m, hmv, hp⟩
    exact hn m hmv hp
  unfold Station.chooseNext
  simp only [free, hm, Bool.not_true, Bool.false_eq_true, if_false]
  split
  next hr hv => exact absurd hg (by simp [hr, hv])
  next => simp only [Station.serveHeld_of_none hh, none_served, Bool.false_and, Bool.false_or]

theorem Station.abandon_other {s : Station} {t : Tag} {c : Call} (hc : s.callOf t = some c) (h : ∀ r, s.seq.record = some r → r.tag ≠ t) :
    s.abandon t = s.postDone (doneOf c .abandoned false) := by
  unfold Station.abandon
  rw [hc]
  dsimp only
  split
  next r hr => exact if_neg (h r hr)
  next => rfl

theorem Station.abandon_active {s : Station} {t : Tag} {c : Call} {r : ReqRecord} (hc : s.callOf t = some c) (hr : s.seq.record = some r)
    (ht : r.tag = t) : s.abandon t = (s.dropPrompt r).postDone (doneOf c .abandoned r.assisted) := by
  unfold Station.abandon
  rw [hc, hr]
  exact if_pos ht

theorem Hand.abandoned_eq (h : Hand) : h.abandoned = if h = .request then .orphan else h := by cases h <;> rfl

theorem Station.faultStep_retry {s : Station} {f : FaultRecord} (hf : s.seq.fault = some f) (ha : f.answer = some .retry) :
    s.faultStep f = { s with seq := { s.seq with
      fault := some { f with reporting := true }, cmd := some ⟨.report, .check, 100, none, false⟩ } } := by
  unfold Station.faultStep
  split
  next hn => cases hn.symm.trans ha
  next a hs =>
    cases hs.symm.trans ha
    dsimp only
    rw [if_neg (by simp), hf]
    rfl

theorem Station.faultStep_release {s : Station} {f : FaultRecord} (ha : f.answer = some .release) :
    s.faultStep f =
      let y := s.abandonable.foldl Station.abandon s
      { y with seq := { y.seq with
        record := none, hand := if y.seq.hand = .request then .orphan else y.seq.hand, putBack := none, resume := none,
        fault := some { f with cmd := .report, purpose := .check, reporting := true },
        cmd := some ⟨.report, .check, 100, none, false⟩ } } := by
  unfold Station.faultStep
  split
  next hn => cases hn.symm.trans ha
  next a hs =>
    cases hs.symm.trans ha
    dsimp only
    rw [if_pos rfl, Station.abandonAll, Hand.abandoned_eq]
    rfl

/-- Settles O49: a drop is its prompt, its move, its command and its record in turn, each with an equation per case. -/
theorem requestsAreGivenUp : Obligations.RequestsAreGivenUp := by
  refine ⟨fun s t h => Station.dropRequest_other h, ?_, ?_, ?_, ?_⟩
  · intro s r hr gone parked left noMove
    have row := Station.dropRequest_eq hr
    have move_left : noMove → s.dropMove = left := Station.dropMove_eq
    have left_seq : left.seq = s.seq := by
      simp only [left]
      split <;> rfl
    refine ⟨fun num hw hp hm hc => ?_, fun hwait => ⟨fun hno hc => ?_, fun f hno hf hp => ⟨fun ht => ?_, fun d ht => ?_⟩,
      fun m hc hm hp => ⟨fun hres => ?_, fun hres => ?_⟩⟩⟩
    · rw [row, Station.dropPrompt_some hw hp, Station.dropMove_of_not (by rw [Station.withdrawPrompt_span]; exact hm),
        Station.dropCommand_none (by rw [Station.withdrawPrompt_seq]; exact hc)]
      rfl
    · rw [row, Station.dropPrompt_none hwait, move_left hno]
      have going : left.dropCommand = left := by
        cases hcmd : s.seq.cmd with
        | none => exact Station.dropCommand_none (by rw [left_seq]; exact hcmd)
        | some f => exact Station.dropCommand_other (by rw [left_seq]; exact hcmd) (hc f hcmd)
      rw [going]
      rfl
    · rw [row, Station.dropPrompt_none hwait, move_left hno, Station.dropCommand_stage (by rw [left_seq]; exact hf) hp ht, left_seq]
      rfl
    · rw [row, Station.dropPrompt_none hwait, move_left hno, Station.dropCommand_travel (by rw [left_seq]; exact hf) hp ht, left_seq]
      rfl
    · have given : s.giveUpMove = (parked s).clearRailBlocked := by simp only [Station.giveUpMove, hres]; rfl
      rw [row, Station.dropPrompt_none hwait, Station.dropMove_stage hm hp,
        Station.dropCommand_none ((Station.cmd_of_work s.giveUpMove_work).trans hc), given]
      rfl
    · have given : s.giveUpMove = s.withdrawSpan.1.ownToRest.parkReservation.postOwn.clearRailBlocked := by
        simp only [Station.giveUpMove, hres]
      rw [row, Station.dropPrompt_none hwait, Station.dropMove_stage hm hp,
        Station.dropCommand_none ((Station.cmd_of_work s.giveUpMove_work).trans hc), given, Station.ownToRest_eq]
      rfl
  · intro s f hm hc hs hl hg hh hn hf report y
    have row : s.chooseNext = s.faultStep f := by
      rw [Station.chooseNext_resting hm hc hs hg hh hn, hl, if_neg Bool.false_ne_true]
      simp only [Station.nextStep, hf]
    exact ⟨fun ha => row.trans (Station.faultStep_retry hf ha), fun ha => row.trans (Station.faultStep_release ha)⟩
  · intro s t
    refine ⟨Station.mem_abandonable, fun c hc => ?_⟩
    intro d
    refine ⟨fun hno => Station.abandon_other hc hno, fun r hr ht => ⟨fun hw => ?_, fun num hw hp => ?_⟩⟩
    · rw [Station.abandon_active hc hr ht, Station.dropPrompt_none (.inl hw)]
      rfl
    · rw [Station.abandon_active hc hr ht, Station.dropPrompt_some hw hp]
      rfl
  · intro s d posted
    refine ⟨fun hroom => Station.postDone_of_room hroom d, fun front x back hlen hlist hx hfront => ?_⟩
    unfold Station.postDone
    dsimp only
    rw [if_neg (by omega), hlist, removeDropped_between hx hfront]

end Sys2Proof.Machine
end

section
/-! SUPPORT and PROOFS. The Sequencer's next step and the rescan (O48). -/

namespace Sys2Proof.Machine

/-! ## The choice of the step (R130) -/

theorem Station.chooseNext_granted {s : Station} {m : Move} (hm : s.ctl.mode = .ready) (hc : s.seq.cmd = none) (hs : s.seq.stop = none)
    (hg : s.span.reservation = .granted) (hv : s.span.move = some m) : s.chooseNext = s.issue (.travel m.target) m.purpose := by
  unfold Station.chooseNext
  simp [Sequencer.idle, hc, hs, hm, hg, hv]

/-- With no fault and nothing to report, the move home comes first (R130, item 5). -/
theorem Station.nextStep_home {s : Station} {t : Nat} (hf : s.seq.fault = none) (hk : s.seq.posKnown = true)
    (hd : s.seq.doorReportOwed = false) (hh : s.seq.handReportOwed = false) (hv : s.span.move = none) (ht : s.homeTarget = some t) :
    s.nextStep = s.askMove t .home := by
  unfold Station.nextStep
  simp only [hf, hk, hd, hh, hv, ht, Bool.not_true, Bool.or_false, Bool.false_eq_true, if_false, Option.isSome_none]

/-- With no move home due, a reel of no request is put back, else the stage goes on (R130, items 6 and 7). -/
theorem Station.nextStep_work {s : Station} (hf : s.seq.fault = none) (hk : s.seq.posKnown = true)
    (hd : s.seq.doorReportOwed = false) (hh : s.seq.handReportOwed = false) (hv : s.span.move = none) (ht : s.homeTarget = none) :
    s.nextStep = if s.seq.hand = .orphan then s.putBackStep else s.stageStep := by
  unfold Station.nextStep
  simp only [hf, hk, hd, hh, hv, ht, Bool.not_true, Bool.or_false, Bool.false_eq_true, if_false, Option.isSome_none]

theorem Station.nextStep_report {s : Station} (hf : s.seq.fault = none)
    (h : s.seq.posKnown = false ∨ s.seq.doorReportOwed = true ∨ s.seq.handReportOwed = true) : s.nextStep = s.issueCheck := by
  unfold Station.nextStep
  rw [hf]
  exact if_pos (by simpa [or_assoc] using h)

theorem Sequencer.resumedTravel_none {q : Sequencer} (h : ∀ t u, q.resume ≠ some (.travel t, u)) (p : Purpose) : q.resumedTravel p = none := by
  unfold Sequencer.resumedTravel
  split
  next t u hr => exact absurd hr (h t u)
  next => rfl

theorem Sequencer.resumedTravel_of {q : Sequencer} {t : Nat} {u : Purpose} (h : q.resume = some (.travel t, u)) (p : Purpose) :
    q.resumedTravel p = if u = p then some t else none := by
  simp only [Sequencer.resumedTravel, h]

theorem Station.homeTarget_none {s : Station} (h : s.seq.resumedTravel .home = none) (hb : s.cv.inBand s.k (s.seq.pos.getD 0) = true) :
    s.homeTarget = none := by
  simp [Station.homeTarget, h, hb]

/-- A place is reached where the carriage stands and no TRAVEL to it is to resume (R131, R150). -/
theorem Sequencer.reached_iff {q : Sequencer} {t : Nat} {p : Purpose} :
    q.reached t p = true ↔ q.pos = some t ∧ q.resumedTravel p = none := by
  simp [Sequencer.reached]

/-! ## A move asked (R108, R131) -/

theorem Sequencer.resumeTaken_none {q : Sequencer} {p : Purpose} (h : q.resumedTravel p = none) : q.resumeTaken p = q :=
  if_neg (by simp [h])

theorem Sequencer.resumeTaken_of {q : Sequencer} {t : Nat} {p : Purpose} (h : q.resume = some (.travel t, p)) :
    q.resumeTaken p = { q with resume := none } :=
  if_pos (by rw [Sequencer.resumedTravel_of h, if_pos rfl]; rfl)

theorem Sequencer.resumedTravel_congr {q r : Sequencer} (h : q.resume = r.resume) (p : Purpose) : q.resumedTravel p = r.resumedTravel p := by
  simp only [Sequencer.resumedTravel, h]

/-- With no peer and no nudge held the move is asked for, and what it takes up is to resume no more (R108, R150). -/
theorem Station.askMove_alone {s : Station} {p t : Nat} {u : Purpose} (hf : s.fit = true) (hr : s.seq.moveRefused = false)
    (hp : s.span.rest = some p) (hres : s.span.reservation = .parked) (hh : s.span.held = []) (hv : s.span.move = none)
    (hb : s.cv.inBand s.k t = true) (alone : s.span.peers = []) :
    s.askMove t u =
      let q := Station.stateOwn { s with span := { s.span with
        move := some ⟨t, u⟩, retries := 0, reservation := .asking, waitTimer := none, firstFree := false } }
        ⟨min p t - s.cv.H, min (max p t + s.cv.H) 65535, .moving, false⟩
      { q with seq := q.seq.resumeTaken u } := by
  have taken : s.requestMove t u = (s.beginMove p t u, .taken) := by
    unfold Station.requestMove
    rw [if_neg (by simp [SpanUnit.nudgeBusy, SpanUnit.serving, hh, hv]), hp]
    exact if_pos (by simp [hf, hres, hb])
  unfold Station.askMove
  rw [if_neg (by simp [hr]), taken, Station.beginMove_clear (by simp [alone])]
  rfl

/-! ## The stages (R133 to R138) -/

theorem Station.stagePlace_ne {s : Station} {r : ReqRecord} {c : Call} {place : Place} (h : s.stagePlace r c = some place) :
    r.stage ≠ .completing ∧ r.stage ≠ .loadWait := by
  constructor <;> intro hs <;> simp [Station.stagePlace, hs] at h

/-- A stage at its place issues its command (R131, R134 to R138). -/
theorem Station.stageStep_reached {s : Station} {r : ReqRecord} {c : Call} {place : Place} {cmd : Command} (hr : s.seq.record = some r)
    (hc : s.callOf r.tag = some c) (hw : r.waiting = none) (hplace : s.stagePlace r c = some place)
    (hgo : s.seq.reached place.pos .stage = true) (hcmd : (r.stage.arrived c.kind).command place = some cmd) :
    s.stageStep = Station.issue { s with seq := { s.seq with record := some { r with stage := r.stage.arrived c.kind } } } cmd .stage := by
  obtain ⟨hcompl, hload⟩ := Station.stagePlace_ne hplace
  unfold Station.stageStep
  simp only [hr, Station.activeCall_of hr hc, hplace, hgo, hcmd, hw, hload, if_true, if_false, Option.isSome_none, Bool.false_or,
    beq_iff_eq, hcompl, Station.updateRecord, Option.map_some]

/-- A stage elsewhere asks its move (R131). -/
theorem Station.stageStep_elsewhere {s : Station} {r : ReqRecord} {c : Call} {place : Place} (hr : s.seq.record = some r)
    (hc : s.callOf r.tag = some c) (hw : r.waiting = none) (hplace : s.stagePlace r c = some place)
    (hgo : s.seq.reached place.pos .stage ≠ true) : s.stageStep = s.askMove place.pos .stage := by
  obtain ⟨hcompl, hload⟩ := Station.stagePlace_ne hplace
  unfold Station.stageStep
  simp only [hr, Station.activeCall_of hr hc, hplace, hgo, hw, hload, Bool.false_eq_true, if_false, Option.isSome_none, Bool.false_or,
    beq_iff_eq, hcompl]

/-- A stage with no place issues its command where the carriage stands (R135, R136). -/
theorem Station.stageStep_here {s : Station} {r : ReqRecord} {c : Call} {cmd : Command} (hr : s.seq.record = some r)
    (hc : s.callOf r.tag = some c) (hw : r.waiting = none) (hs : r.stage = .label ∧ cmd = .readLabel ∨ r.stage = .ring ∧ cmd = .ringCheck) :
    s.stageStep = s.issue cmd .stage := by
  unfold Station.stageStep
  rcases hs with ⟨hs, rfl⟩ | ⟨hs, rfl⟩ <;> simp [hr, Station.activeCall_of hr hc, hw, hs, Station.stagePlace, Stage.command]

theorem Station.stageStep_idle {s : Station} {r : ReqRecord} {c : Call} (hr : s.seq.record = some r) (hc : s.callOf r.tag = some c)
    (h : r.waiting ≠ none ∨ r.stage = .completing) : s.stageStep = s := by
  unfold Station.stageStep
  rw [hr, Station.activeCall_of hr hc]
  exact if_pos (by simpa [Option.ne_none_iff_isSome] using h)

theorem Station.stageStep_loadWait {s : Station} {r : ReqRecord} {c : Call} (hr : s.seq.record = some r) (hc : s.callOf r.tag = some c)
    (hw : r.waiting = none) (hs : r.stage = .loadWait) : s.stageStep = s.raiseBound .loadWindow .toSource none none := by
  unfold Station.stageStep
  rw [hr, Station.activeCall_of hr hc]
  dsimp only
  rw [if_neg (by simp [hw, hs]), if_pos hs]

/-- The destination as the record has it (R133, R138). -/
theorem Station.destPlace_eq {s : Station} {r : ReqRecord} {c : Call} {d : Place}
    (h : (r.dest = .drive ∧ d = c.drive) ∨ (r.dest = .window ∧ d = s.cv.windowPlace) ∨
      ∃ q, ((r.dest = .ret ∧ c.ret = some q) ∨ (r.dest = .source ∧ c.source = some q)) ∧ d = if q.window = true then s.cv.windowPlace else q) :
    s.destPlace r.dest c = d := by
  rcases h with ⟨hd, rfl⟩ | ⟨hd, rfl⟩ | ⟨q, ⟨hd, hq⟩ | ⟨hd, hq⟩, rfl⟩
  · rw [hd]; rfl
  · rw [hd]; rfl
  · rw [hd, Station.destPlace, hq]; rfl
  · rw [hd, Station.destPlace, hq]; rfl

/-- A carrying stage: TO-DRIVE of a mount, TO-CELL, PLACING (R133, R137, R138). -/
theorem Station.stagePlace_carrying {s : Station} {r : ReqRecord} {c : Call}
    (h : (r.stage = .toDrive ∧ c.kind ≠ .demount) ∨ r.stage = .toCell ∨ r.stage = .placing) :
    s.stagePlace r c = some (s.destPlace r.dest c) ∧ r.stage.arrived c.kind = .placing := by
  rcases h with ⟨hs, hk⟩ | hs | hs
  · exact ⟨by rw [Station.stagePlace, hs]; exact if_neg hk, by rw [hs]; exact if_neg hk⟩
  · exact ⟨by rw [Station.stagePlace, hs], by rw [hs]; rfl⟩
  · exact ⟨by rw [Station.stagePlace, hs], by rw [hs]; rfl⟩

theorem Station.stagePlace_source {s : Station} {r : ReqRecord} {c : Call} (h : r.stage = .toSource ∨ r.stage = .picking) :
    s.stagePlace r c = some (s.cv.sourceOf c) ∧ r.stage.arrived c.kind = .picking := by
  rcases h with hs | hs <;> exact ⟨by rw [Station.stagePlace, hs], by rw [hs]; rfl⟩

theorem Station.stagePlace_detour {s : Station} {r : ReqRecord} {c : Call}
    (h : r.stage = .detourTravel ∨ r.stage = .detourPlace ∨ r.stage = .detourPick) : s.stagePlace r c = some s.cv.windowPlace := by
  rcases h with hs | hs | hs <;> rw [Station.stagePlace, hs]

theorem Station.stagePlace_demount {s : Station} {r : ReqRecord} {c : Call} (hs : r.stage = .toDrive) (hk : c.kind = .demount) :
    s.stagePlace r c = some c.drive ∧ r.stage.arrived c.kind = .picking :=
  ⟨by rw [Station.stagePlace, hs]; exact if_pos hk, by rw [hs]; exact if_pos hk⟩

/-! ## The rescan (R94, R95) -/

/-- With HELD or FAULTED set, or no capacity left, the rescan offers nothing (R95). -/
theorem Station.doRescan_idle {s : Station} (hr : s.req.rescan = true)
    (h : s.seq.doorLatch = true ∨ s.seq.fault ≠ none ∨ s.req.capacity = 0) :
    s.doRescan = { s with req := { s.req with rescan := false } } := by
  unfold Station.doRescan
  rw [if_pos hr]
  dsimp only
  split
  next fit =>
    have none_left : s.req.capacity = 0 := by
      refine (h.resolve_left fun hl => ?_).resolve_left fun hf => hf ?_ <;>
        simp_all [Station.fit, Station.heldCond, Station.faulted]
    exact (congrArg (fun n => Station.rescanEntries _ n _) none_left).trans (by rw [Station.rescanEntries])
  next => rfl

/-- With capacity left the rescan takes the one HEARD entry (R95). -/
theorem Station.doRescan_one {s : Station} {e : Entry} (hm : s.ctl.mode = .ready) (hr : s.req.rescan = true) (hl : s.seq.doorLatch = false)
    (hf : s.seq.fault = none) (hcap : 1 ≤ s.req.capacity) (hone : s.req.table.filter (fun e => e.state = .heard) = [e]) :
    ∃ n, s.doRescan = Station.rescanEntries { s with req := { s.req with rescan := false } } (n + 1) [e] := by
  let y := { s with req := { s.req with rescan := false } }
  have fit : y.fit = true := by simp [y, Station.fit, Station.heldCond, Station.faulted, hm, hl, hf]
  have order : y.req.rescanOrder = [e] := by
    have heard : (s.req.table.filter fun e => e.state == .heard) = [e] := hone ▸ List.filter_congr fun u _ => by simp [beq_eq_decide]
    simp only [RequestUnit.rescanOrder, y, heard]
    cases hu : e.call.urgent <;> simp [hu]
  refine ⟨s.req.capacity - 1, (if_pos hr).trans ((if_pos fit).trans ?_)⟩
  exact congrArg₂ y.rescanEntries (Nat.succ_pred_eq_of_pos hcap).symm order

theorem Station.rescanEntries_nil (s : Station) (n : Nat) : s.rescanEntries n [] = s := by cases n <;> rfl

theorem Station.rescanEntries_one_none {s : Station} {e : Entry} (h : s.cost e.call = none) (n : Nat) : s.rescanEntries (n + 1) [e] = s := by
  rw [Station.rescanEntries, h]
  exact s.rescanEntries_nil _

theorem Station.rescanEntries_one_some {s : Station} {e : Entry} {c b : Nat} (h : s.cost e.call = some (c, b)) (n : Nat) :
    s.rescanEntries (n + 1) [e] = s.postOffer e.call.tag c b := by
  rw [Station.rescanEntries, h]
  exact Station.rescanEntries_nil _ _

/-- Settles O48: the choice comes down to the grant, the REPORT, the move home, the put-back or the stage, and each stage to its place. -/
theorem nextStepIsChosen : Obligations.NextStepIsChosen := by
  intro s hm hc hs issued nudgeless fit still placed dest carries
  have resting (h : nudgeless) : s.chooseNext = if s.seq.doorLatch then s else s.nextStep := by
    obtain ⟨hg, hh, hn⟩ := h
    exact Station.chooseNext_resting hm hc hs hg hh hn
  have step (h : fit) : s.chooseNext = s.nextStep := by
    obtain ⟨hn, hl, -⟩ := h
    rw [resting hn, hl]
    exact if_neg Bool.false_ne_true
  have home (h : still) {t : Nat} (ht : s.homeTarget = some t) : s.chooseNext = s.askMove t .home := by
    obtain ⟨hfit, hk, hd, hh, hv⟩ := h
    exact (step hfit).trans (Station.nextStep_home hfit.2.2 hk hd hh hv ht)
  have work (h : still) (ht : s.homeTarget = none) : s.chooseNext = if s.seq.hand = .orphan then s.putBackStep else s.stageStep := by
    obtain ⟨hfit, hk, hd, hh, hv⟩ := h
    exact (step hfit).trans (Station.nextStep_work hfit.2.2 hk hd hh hv ht)
  have free (h : placed) (p : Purpose) : s.seq.resumedTravel p = none := Sequencer.resumedTravel_none h.2.2 p
  have here (h : placed) := work h.1 (Station.homeTarget_none (free h .home) h.2.1)
  have stage (h : placed) (ho : s.seq.hand ≠ .orphan) : s.chooseNext = s.stageStep := (here h).trans (if_neg ho)
  have alone {p t : Nat} (u : Purpose) (h : still) (hr : s.seq.moveRefused = false) (hp : s.span.rest = some p)
      (hres : s.span.reservation = .parked) (hb : s.cv.inBand s.k t = true) (ha : s.span.peers = []) :=
    Station.askMove_alone (u := u) (by simp [Station.fit, Station.heldCond, Station.faulted, hm, h.1.2.1, h.1.2.2]) hr hp hres
      h.1.1.2.1 h.2.2.2.2 hb ha
  refine ⟨fun m hg hv => ?_, fun hn hl => ?_, fun f hn hf ha => ?_, fun hfit h => ?_, fun p hp ho hb hpos => ?_, fun hp ho hr => ?_,
    fun r c hp ho hr hcall => ⟨fun h => ?_, fun hw => ?_⟩, fun p t u hst hr => ?_, fun hr => ?_⟩
  · exact Station.chooseNext_granted hm hc hs hg hv
  · rw [resting hn, if_pos hl]
  · rw [resting hn]
    split
    · rfl
    · simp only [Station.nextStep, hf, Station.faultStep, ha]
  · exact (step hfit).trans (Station.nextStep_report hfit.2.2 h)
  · rw [here hp, if_pos ho, Station.putBackStep, hb]
    exact if_pos (Sequencer.reached_iff.2 ⟨hpos, free hp _⟩)
  · rw [stage hp ho, Station.stageStep, hr]
  · exact (stage hp ho).trans (Station.stageStep_idle hr hcall h)
  · have at_place {place : Place} {cmd : Command} {g : Stage} (hplace : s.stagePlace r c = some place) (hpos : s.seq.pos = some place.pos)
        (hg : r.stage.arrived c.kind = g) (hcmd : g.command place = some cmd) :
        s.chooseNext = Station.issue { s with seq := { s.seq with record := some { r with stage := g } } } cmd .stage := by
      subst hg
      exact (stage hp ho).trans
        (Station.stageStep_reached hr hcall hw hplace (Sequencer.reached_iff.2 ⟨hpos, free hp .stage⟩) hcmd)
    refine ⟨fun h => ?_, fun h => ?_, fun h hpos => ?_, fun h hpos => ?_, fun h hpos => ?_, fun h hk hpos => ?_,
      fun d hd h hpos => ?_, fun h => ?_, fun p d h hpos hne hrf hrest hres hb ha => ?_⟩
    · exact (stage hp ho).trans (Station.stageStep_here hr hcall hw (.inl ⟨h, rfl⟩))
    · exact (stage hp ho).trans (Station.stageStep_here hr hcall hw (.inr ⟨h, rfl⟩))
    · obtain ⟨hplace, hg⟩ := Station.stagePlace_source (s := s) (c := c) h
      exact at_place hplace hpos hg rfl
    · refine at_place (Station.stagePlace_detour (h.imp_right .inl)) hpos ?_ rfl
      rcases h with h | h
      · exact congrArg (Stage.arrived c.kind) h
      · exact congrArg (Stage.arrived c.kind) h
    · refine (at_place (g := .detourPick) (Station.stagePlace_detour (.inr (.inr h))) hpos (congrArg (Stage.arrived c.kind) h) rfl).trans ?_
      have kept : s.seq.record = some { r with stage := .detourPick } := by rw [hr, ← h]
      rw [← kept]
      rfl
    · obtain ⟨hplace, hg⟩ := Station.stagePlace_demount (s := s) h hk
      exact at_place hplace hpos hg rfl
    · obtain ⟨hplace, hg⟩ := Station.stagePlace_carrying (s := s) h
      rw [Station.destPlace_eq hd] at hplace
      exact at_place hplace hpos hg rfl
    · rw [stage hp ho, Station.stageStep_loadWait hr hcall hw h, Station.raiseBound_eq hr hcall]
    · have hplace : s.stagePlace r c = some d := by
        rcases h with ⟨h, rfl⟩ | ⟨h, rfl⟩ | ⟨⟨h, hk⟩, rfl⟩ | ⟨h, hd⟩
        · exact (Station.stagePlace_source h).1
        · exact Station.stagePlace_detour h
        · exact (Station.stagePlace_demount h hk).1
        · rw [(Station.stagePlace_carrying h).1, Station.destPlace_eq hd]
      have away : s.seq.reached d.pos .stage ≠ true := fun hx => by
        obtain ⟨hat, -⟩ := Sequencer.reached_iff.1 hx
        exact hne (Option.some.inj (hpos.symm.trans hat))
      rw [stage hp ho, Station.stageStep_elsewhere hr hcall hw hplace away, alone .stage hp.1 hrf hrest hres hb ha]
      dsimp only
      rw [Sequencer.resumeTaken_none]
      rw [Sequencer.resumedTravel_congr (Station.resume_of_work (Station.stateOwn_work _ _))]
      exact free hp .stage
  · intro hhome hput hstage hn1 hn2 hn3 hrf hrest hpark hb ha q
    have standing (v : Purpose) : s.seq.resumedTravel v = if u = v then some t else none := Sequencer.resumedTravel_of hr v
    have away : s.seq.reached t u ≠ true := fun hx => by
      obtain ⟨-, hnone⟩ := Sequencer.reached_iff.1 hx
      rw [standing, if_pos rfl] at hnone
      cases hnone
    have ask : s.chooseNext = s.askMove t u := by
      cases u with
      | home => exact home hst (by rw [Station.homeTarget, standing, if_pos rfl])
      | putBack =>
        obtain ⟨ho, place, hp, rfl⟩ := hput rfl
        have band := hhome.resolve_left (by decide)
        rw [work hst (Station.homeTarget_none (standing .home) band), if_pos ho, Station.putBackStep, hp]
        exact if_neg away
      | stage =>
        obtain ⟨ho, r, c, place, hrec, hcall, hw, hplace, rfl⟩ := hstage rfl
        have band := hhome.resolve_left (by decide)
        rw [work hst (Station.homeTarget_none (standing .home) band), if_neg ho]
        exact Station.stageStep_elsewhere hrec hcall hw hplace away
      | nudge => exact absurd rfl hn1
      | check => exact absurd rfl hn2
      | dropped => exact absurd rfl hn3
    rw [ask, alone u hst hrf hrest hpark hb ha]
    exact congrArg (fun y : Sequencer => ({ q with seq := y } : Station))
      (Sequencer.resumeTaken_of ((Station.resume_of_work (Station.stateOwn_work _ _)).trans hr))
  · intro y
    refine ⟨Station.doRescan_idle hr, fun e cost base hl hf hcap hone => ?_⟩
    obtain ⟨n, row⟩ := Station.doRescan_one hm hr hl hf hcap hone
    exact ⟨fun hcost => row.trans (Station.rescanEntries_one_none hcost n), fun hcost => row.trans (Station.rescanEntries_one_some hcost n)⟩

end Sys2Proof.Machine
end

section
/-! SUPPORT and PROOFS. The prompt list: what a posting leaves of it, and raising (O50). -/

namespace Sys2Proof.Machine

/-! ## The entry of a number -/

theorem map_num_between {front back : List PromptEntry} {u : PromptEntry} {f : PromptEntry → PromptEntry}
    (h : ∀ v ∈ front ++ back, v.num ≠ u.num) :
    (front ++ u :: back).map (fun e => if e.num = u.num then f e else e) = front ++ f u :: back := by
  have kept {l : List PromptEntry} (hl : ∀ v ∈ l, v.num ≠ u.num) : (l.map fun e => if e.num = u.num then f e else e) = l :=
    (List.map_congr_left (g := id) fun v hv => if_neg (hl v hv)).trans (List.map_id l)
  rw [List.map_append, List.map_cons, if_pos rfl, kept fun v hv => h v (List.mem_append_left _ hv),
    kept fun v hv => h v (List.mem_append_right _ hv)]

theorem PromptUnit.find_between {p : PromptUnit} {front back : List PromptEntry} {u : PromptEntry} (hl : p.list = front ++ u :: back)
    (h : ∀ v ∈ front, v.num ≠ u.num) : p.find u.num = some u := by
  rw [PromptUnit.find, hl, List.find?_append, List.find?_eq_none.2 (by simpa using h)]
  simp

theorem PromptUnit.find_of_unique {p : PromptUnit} {u : PromptEntry} (hu : u ∈ p.list) (h : ∀ v ∈ p.list, v.num = u.num → v = u) :
    p.find u.num = some u := by
  rw [PromptUnit.find]
  cases hf : p.list.find? fun e => e.num == u.num with
  | none => exact absurd (beq_self_eq_true u.num) (List.find?_eq_none.1 hf u hu)
  | some v => rw [h v (List.mem_of_find?_eq_some hf) (by simpa using List.find?_some hf)]

/-- A change of entries that keeps their numbers is found where the entry was. -/
theorem PromptUnit.find_map {p q : PromptUnit} {f : PromptEntry → PromptEntry} (hq : q.list = p.list.map f) (hf : ∀ e, (f e).num = e.num)
    (n : Nat) : q.find n = (p.find n).map f := by
  simp only [PromptUnit.find, hq, List.find?_map, Function.comp_def, hf]

/-! ## A posting -/

/-- What the report of a drop may do to the prompt list: entries that are SHOWN are marked (R164). -/
def Marked (l m : List PromptEntry) : Prop :=
  ∃ g : PromptEntry → PromptEntry, (∀ e, g e = e ∨ e.shown = true ∧ g e = { e with drop := .dropped }) ∧ m = l.map g

theorem Marked.refl (l : List PromptEntry) : Marked l l := ⟨id, fun _ => .inl rfl, (List.map_id l).symm⟩

theorem Marked.of_eq {l m : List PromptEntry} (h : m = l) : Marked l m := h ▸ .refl m

/-- With nothing SHOWN the report marks nothing. -/
theorem Marked.eq {l m : List PromptEntry} (h : Marked l m) (hl : ∀ e ∈ l, e.shown = false) : m = l := by
  obtain ⟨g, hg, rfl⟩ := h
  refine (List.map_congr_left fun e he => ?_).trans (List.map_id l)
  exact (hg e).resolve_right fun hx => by rw [hl e he] at hx; exact absurd hx.1 Bool.false_ne_true

@[simp] theorem Station.handOver_prm (s : Station) (t : Tag) : (s.handOver t).prm = s.prm := by
  unfold Station.handOver; split <;> rfl

@[simp] theorem Station.leaveOwned_prm (s : Station) (t : Tag) : (s.leaveOwned t).prm = s.prm := by
  unfold Station.leaveOwned; dsimp only; repeat' split
  · rw [Station.handOver_prm]; rfl
  · rfl
  · rfl

@[simp] theorem Station.takeDropped_prm (s : Station) (t : Tag) (c : Nat) : (s.takeDropped t c).prm = s.prm := by
  unfold Station.takeDropped; repeat' split
  · rw [Station.leaveOwned_prm]; rfl
  · rfl
  · rfl

@[simp] theorem Station.spanDropped_prm (s : Station) (b : Bool) : (s.spanDropped b).prm = s.prm := by
  unfold Station.spanDropped; split
  · dsimp only
    rw [Station.ownToRest_eq]
  · rfl

theorem Station.promptDropped_marked (s : Station) (n : Nat) (l : Option Level) : Marked s.prm.list (s.promptDropped n l).prm.list := by
  refine ⟨fun e => if e.num = n ∧ e.shown = true ∧ some e.level = l then { e with drop := .dropped } else e, fun e => ?_, rfl⟩
  by_cases h : e.num = n ∧ e.shown = true ∧ some e.level = l
  · exact .inr ⟨h.2.1, if_pos h⟩
  · exact .inl (if_neg h)

theorem Station.reportDrop_marked (s : Station) (f : Frame) (newer : List Frame) : Marked s.prm.list (s.reportDrop f newer).prm.list := by
  unfold Station.reportDrop; dsimp only; repeat' split
  all_goals first
    | exact .refl _ | exact s.promptDropped_marked _ _ | exact .of_eq (congrArg PromptUnit.list (s.takeDropped_prm _ _)) | exact .of_eq (congrArg PromptUnit.list (s.spanDropped_prm _))

/-- A posting marks SHOWN entries at most. -/
theorem Station.post_marked (s : Station) (b : Block) (d : Nat) (m : Msg) : Marked s.prm.list (s.post b d m).prm.list := by
  unfold Station.post Station.settle; split
  · exact .refl _
  · exact Station.reportDrop_marked _ _ _

theorem Station.post_list {s : Station} (h : ∀ e ∈ s.prm.list, e.shown = false) (b : Block) (d : Nat) (m : Msg) :
    (s.post b d m).prm.list = s.prm.list := (s.post_marked b d m).eq h

/-- Marks leave the levels in the list as they are. -/
theorem Marked.urgent {l m : List PromptEntry} (h : Marked l m) :
    (m.any fun e => e.level == .urgent) = l.any fun e => e.level == .urgent := by
  obtain ⟨g, hg, rfl⟩ := h
  rw [List.any_map]
  refine List.any_congr rfl fun e => ?_
  rcases hg e with h | ⟨-, h⟩ <;> rw [Function.comp_apply, h]

/-- Marks leave what an entry states as it is, and whether it is SHOWN. -/
theorem Marked.find {p q : PromptUnit} (h : Marked p.list q.list) : ∃ g : PromptEntry → PromptEntry,
    (∀ e, (g e).msg = e.msg ∧ (g e).shown = e.shown) ∧ ∀ n, q.find n = (p.find n).map g := by
  obtain ⟨g, hg, hq⟩ := h
  refine ⟨g, fun e => ?_, PromptUnit.find_map hq fun e => ?_⟩ <;> rcases hg e with h | ⟨-, h⟩ <;> rw [h]
  · exact ⟨rfl, rfl⟩
  · exact ⟨rfl, rfl⟩

/-! ## Stating and showing (R158) -/

/-- An entry's marks as its PROMPT is posted (R158, R164). -/
def PromptEntry.quiet (e : PromptEntry) : PromptEntry := { e with heard := false, resend := none, drop := .none }

/-- An entry is stated with what it holds: its number, kind, level and fields (R164). -/
theorem Station.statePrompt_of_find {s : Station} {n : Nat} {e : PromptEntry} (h : s.prm.find n = some e) :
    s.statePrompt n = Station.post { s with prm := { s.prm with
      list := s.prm.list.map fun u => if u.num = n then u.quiet else u } } .prompt 63 e.msg := by
  have he : e.num = n := by simpa using List.find?_some h
  have found : (s.updatePrompt n PromptEntry.quiet).prm.find n = some e.quiet := by
    rw [PromptUnit.find_map rfl (fun u => by split <;> rfl), h, Option.map_some, if_pos he]
  unfold Station.statePrompt
  exact (congrArg (fun o => match o with
    | some u => (s.updatePrompt n PromptEntry.quiet).post .prompt 63 u.msg
    | none => s.updatePrompt n PromptEntry.quiet) found).trans rfl

/-- A SHOWN entry is stated (R158). -/
theorem Station.showPrompt_of_find {s : Station} {n : Nat} {e : PromptEntry} (h : s.prm.find n = some e) :
    s.showPrompt n = Station.post { s with prm := { s.prm with
      list := s.prm.list.map fun u => if u.num = n then { u.quiet with shown := true } else u } } .prompt 63 e.msg := by
  have he : e.num = n := by simpa using List.find?_some h
  have found : (s.updatePrompt n fun u => { u with shown := true }).prm.find n = some { e with shown := true } := by
    rw [PromptUnit.find_map rfl (fun u => by split <;> rfl), h, Option.map_some, if_pos he]
  have twice : ((s.prm.list.map fun u => if u.num = n then { u with shown := true } else u).map
      fun u => if u.num = n then u.quiet else u) = s.prm.list.map fun u => if u.num = n then { u.quiet with shown := true } else u := by
    rw [List.map_map]
    refine List.map_congr_left fun u _ => ?_
    by_cases hu : u.num = n
    · simp [hu, PromptEntry.quiet]
    · simp [hu]
  refine (Station.statePrompt_of_find found).trans ?_
  exact congrArg (fun l => Station.post { s with prm := { s.prm with list := l } } .prompt 63 e.msg) twice

theorem Station.showPrompt_between {s : Station} {front back : List PromptEntry} {u : PromptEntry} (hl : s.prm.list = front ++ u :: back)
    (h : ∀ v ∈ front ++ back, v.num ≠ u.num) : s.showPrompt u.num = Station.post { s with prm := { s.prm with
      list := front ++ { u.quiet with shown := true } :: back } } .prompt 63 u.msg := by
  rw [Station.showPrompt_of_find (PromptUnit.find_between hl fun v hv => h v (List.mem_append_left _ hv)), hl, map_num_between h]

theorem pushClear_of_room {l : List ClearRecord} (h : l.length ≤ 7) (r : ClearRecord) : pushClear r l = l ++ [r] := by
  rw [pushClear, if_pos h]

/-- A preempted entry returns to QUEUED with its PROMPT-CLEAR, then the other is SHOWN and stated (R159). -/
theorem Station.preempt_of_find {s : Station} {m n : Nat} {e : PromptEntry} (h : s.prm.find n = some e) :
    s.preempt m n =
      let q := Station.post { s with prm := { s.prm with
        list := s.prm.list.map fun u => if u.num = m then { u.quiet with shown := false } else u,
        clears := pushClear ⟨m, .preempted, .none⟩ s.prm.clears } } .prompt 63 (.clear m .preempted)
      Station.post { q with prm := { q.prm with
        list := q.prm.list.map fun u => if u.num = n then { u.quiet with shown := true } else u } } .prompt 63 e.msg := by
  let y := s.updatePrompt m fun u => { u.quiet with shown := false }
  have found : y.prm.find n = some (if e.num = m then { e.quiet with shown := false } else e) := by
    rw [PromptUnit.find_map rfl (fun u => by split <;> rfl), h, Option.map_some]
  obtain ⟨g, hg, hfind⟩ := (Station.post_marked { y with prm := { y.prm with clears := pushClear ⟨m, .preempted, .none⟩ y.prm.clears } }
    .prompt 63 (.clear m .preempted)).find
  have same : (g (if e.num = m then { e.quiet with shown := false } else e)).msg = e.msg := by
    rw [(hg _).1]
    split <;> rfl
  rw [← same]
  exact Station.showPrompt_of_find ((hfind n).trans (congrArg (Option.map g) found))

/-! ## The choice (R158) -/

theorem betterShown_of_lt {b e : PromptEntry} (h : b.level.rank < e.level.rank) : betterShown b e = e := if_pos h

theorem betterShown_of_le {b e : PromptEntry} (h : e.level.rank ≤ b.level.rank) : betterShown b e = b := if_neg (Nat.not_lt.2 h)

theorem foldl_betterShown_of_le {u : PromptEntry} {l : List PromptEntry} (h : ∀ v ∈ l, v.level.rank ≤ u.level.rank) :
    l.foldl betterShown u = u := by
  induction l with
  | nil => rfl
  | cons v vs ih =>
    obtain ⟨hv, hvs⟩ := List.forall_mem_cons.1 h
    rw [List.foldl_cons, betterShown_of_le hv, ih hvs]

theorem foldl_betterShown_lt {u : PromptEntry} {l : List PromptEntry} (h : ∀ v ∈ l, v.level.rank < u.level.rank) :
    ∀ {e : PromptEntry}, e.level.rank < u.level.rank → (l.foldl betterShown e).level.rank < u.level.rank := by
  induction l with
  | nil => exact id
  | cons v vs ih =>
    obtain ⟨hv, hvs⟩ := List.forall_mem_cons.1 h
    refine fun he => ih hvs ?_
    unfold betterShown
    split <;> assumption

/-- The oldest of the highest level: all before it are lower, none after it is higher (R158). -/
theorem Station.chooseShown_between {s : Station} {front back : List PromptEntry} {u : PromptEntry} (hl : s.prm.list = front ++ u :: back)
    (hs : ∀ v ∈ s.prm.list, v.shown = false) (hf : ∀ v ∈ front, v.level.rank < u.level.rank)
    (hb : ∀ v ∈ back, v.level.rank ≤ u.level.rank) : s.chooseShown = s.showPrompt u.num := by
  have none_shown : s.prm.shownEntry = none := List.find?_eq_none.2 fun v hv => by simp [hs v hv]
  unfold Station.chooseShown
  rw [none_shown, hl]
  cases front with
  | nil => exact congrArg (fun v : PromptEntry => s.showPrompt v.num) (foldl_betterShown_of_le hb)
  | cons e es =>
    obtain ⟨he, hes⟩ := List.forall_mem_cons.1 hf
    refine congrArg (fun v : PromptEntry => s.showPrompt v.num) ?_
    show (es ++ u :: back).foldl betterShown e = u
    rw [List.foldl_append, List.foldl_cons, betterShown_of_lt (foldl_betterShown_lt hes he), foldl_betterShown_of_le hb]

theorem Station.chooseShown_empty {s : Station} (h : s.prm.list = []) : s.chooseShown = s := by
  unfold Station.chooseShown
  rw [h]
  split <;> first | rfl | contradiction

/-! ## Leaving the list (R160) -/

/-- A QUEUED entry leaves without a frame (R160). -/
theorem Station.leavePrompt_queued {s : Station} {n : Nat} {e : PromptEntry} (h : s.prm.find n = some e) (hs : e.shown = false)
    (reason : ClearReason) : s.leavePrompt n reason =
      Station.driveBeacon { s with prm := { s.prm with list := s.prm.list.filter fun x => x.num != n } } := by
  unfold Station.leavePrompt
  rw [h]
  dsimp only
  rw [hs]
  rfl

/-- A SHOWN entry's PROMPT-CLEAR is posted, and another is chosen (R158, R160, R165). -/
theorem Station.leavePrompt_shown {s : Station} {n : Nat} {e : PromptEntry} (h : s.prm.find n = some e) (hs : e.shown = true)
    (reason : ClearReason) : s.leavePrompt n reason =
      Station.driveBeacon (Station.chooseShown { s.postClear n reason with prm := { (s.postClear n reason).prm with
        list := (s.postClear n reason).prm.list.filter fun x => x.num != n } }) := by
  unfold Station.leavePrompt
  rw [h]
  dsimp only
  rw [hs]
  rfl

/-! ## Raising (R154 to R156) -/

theorem freeNumber_free {l : List PromptEntry} {n : Nat} (h : ∀ e ∈ l, e.num ≠ n) (fuel : Nat) : freeNumber l (fuel + 1) n = n :=
  if_neg fun hx => by
    obtain ⟨e, he, hn⟩ := List.any_eq_true.1 hx
    exact h e he (beq_iff_eq.1 hn)

/-- The list with the entry of a raise at its end, under the next number (R154, R155). -/
def Station.joined (s : Station) (k : PromptKind) (f : PromptFields) : Station := { s with prm := { s.prm with
  list := s.prm.list ++ [PromptEntry.new s.prm.nextNum k f s.now], nextNum := nextNumber s.prm.nextNum,
  clears := s.prm.clears.filter fun c => c.num != s.prm.nextNum } }

theorem Station.raise_free {s : Station} {k : PromptKind} {f : PromptFields} (hn : ∀ e ∈ s.prm.list, e.num ≠ s.prm.nextNum)
    (hp : k.requestBound = true ∨ s.prm.general.length ≤ 5) :
    s.raise k f = (((s.joined k f).offerShown s.prm.nextNum k.level).driveBeacon, some s.prm.nextNum) := by
  have accepted : s.acceptRaise k f = (((s.joined k f).offerShown s.prm.nextNum k.level).driveBeacon, s.prm.nextNum) := by
    rw [Station.acceptRaise, freeNumber_free hn]
    rfl
  rw [Station.raise, if_pos (by simpa using hp), accepted]

theorem Station.offerShown_lower {s : Station} {u : PromptEntry} {l : Level} (h : s.prm.shownEntry = some u)
    (hr : l.rank ≤ u.level.rank) (n : Nat) : s.offerShown n l = s := by
  unfold Station.offerShown
  rw [h]
  exact if_neg (Nat.not_lt.2 hr)

theorem Station.offerShown_higher {s : Station} {u : PromptEntry} {l : Level} (h : s.prm.shownEntry = some u)
    (hr : u.level.rank < l.rank) (n : Nat) : s.offerShown n l = s.preempt u.num n := by
  unfold Station.offerShown
  rw [h]
  exact if_pos hr

/-- The general places are counted by number, kind and fields alone. -/
theorem Station.general_length (s : Station) : s.prm.general.length = (s.stated.filter fun x => !x.2.1.requestBound).length := by
  rw [PromptUnit.general, Station.stated, List.filter_map, List.length_map]
  rfl

theorem Station.toldDisplaced_prm (s : Station) (e : PromptEntry) : (s.toldDisplaced e).prm = s.prm := by
  unfold Station.toldDisplaced; split <;> rfl

theorem Station.leavePrompt_stated (s : Station) (n : Nat) (r : ClearReason) :
    (s.leavePrompt n r).stated = s.stated.filter fun x => x.1 != n := by
  have removed (y : Station) (hy : y.stated = s.stated) : Station.stated { y with prm := { y.prm with
      list := y.prm.list.filter fun x => x.num != n } } = s.stated.filter fun x => x.1 != n := by
    rw [← hy, Station.stated, Station.stated, List.filter_map]
    rfl
  unfold Station.leavePrompt
  split
  next hf =>
    refine (List.filter_eq_self.2 fun x hx => ?_).symm
    obtain ⟨e, he, rfl⟩ := List.mem_map.1 hx
    simpa using List.find?_eq_none.1 hf e he
  next e hf =>
    dsimp only
    split
    · refine (Station.chooseShown_stated _).trans (removed _ ?_)
      exact (Station.post_stated _ _ _ _).trans rfl
    · exact removed _ rfl

/-- A displaced NOTICE leaves a general place free (R156). -/
theorem Station.general_displaced {s : Station} {v : PromptEntry} (hv : v ∈ s.prm.general) (h6 : s.prm.general.length = 6) :
    ((s.leavePrompt v.num .withdrawn).toldDisplaced v).prm.general.length ≤ 5 := by
  rw [Station.toldDisplaced_prm, Station.general_length, Station.leavePrompt_stated, List.filter_comm]
  rw [Station.general_length] at h6
  obtain ⟨hl, hb⟩ := List.mem_filter.1 hv
  have hmem : (v.num, v.kind, v.fields) ∈ s.stated.filter fun x => !x.2.1.requestBound :=
    List.mem_filter.2 ⟨List.mem_map_of_mem hl, hb⟩
  have shorter := List.length_filter_lt_length_iff_exists (p := fun x : Nat × PromptKind × PromptFields => x.1 != v.num) |>.2
    ⟨_, hmem, by simp⟩
  omega

/-- A general raise with its places full displaces their oldest NOTICE, and is then taken (R156). -/
theorem Station.raise_displaces {s : Station} {k : PromptKind} {v : PromptEntry} (hk : k.requestBound = false)
    (h6 : s.prm.general.length = 6) (hv : (s.prm.general.find? fun u => u.level == .notice) = some v) (f : PromptFields) :
    s.raise k f = ((s.leavePrompt v.num .withdrawn).toldDisplaced v).raise k f := by
  have room := Station.general_displaced (List.mem_of_find?_eq_some hv) h6
  conv => lhs; rw [Station.raise, if_neg (by simp [hk, h6])]
  conv => rhs; rw [Station.raise, if_pos (by simp [room])]
  rw [hv]

/-- Settles O50: a posting marks SHOWN entries at most, so the list after a preemption is known though its PROMPT-CLEAR may be dropped. -/
theorem raiseIsTaken : Obligations.RaiseIsTaken := by
  intro s k f hfree hnum general num e told lit stated
  refine ⟨fun hempty => ?_, fun hroom => ⟨fun u hu hrank => ?_, fun front u back hl hu hothers hrank hclears => ?_⟩,
    fun hk h6 hnone => ?_, fun v hk h6 hv => ?_, fun front u back hl hs hn hf hb => ?_⟩
  · have joined : (s.joined k f).prm.list = [] ++ e :: [] := congrArg (· ++ [e]) hempty
    have choice : (s.joined k f).offerShown num k.level = (s.joined k f).chooseShown := by
      unfold Station.offerShown
      rw [PromptUnit.shownEntry, joined]
      rfl
    rw [Station.raise_free hfree (.inr (by simp [PromptUnit.general, hempty])), choice,
      Station.chooseShown_between joined (by simp [joined, e]) (by simp) (by simp), Station.showPrompt_between joined (by simp)]
    rfl
  · have shown : (s.joined k f).prm.shownEntry = some u :=
      (List.find?_append ..).trans (by rw [hu]; rfl)
    rw [Station.raise_free hfree hroom, Station.offerShown_lower shown hrank]
    rfl
  · have shown : (s.joined k f).prm.shownEntry = some u := by
      have first (x : PromptEntry) (hx : x ∈ front) : x.shown = false := (hothers x (List.mem_append_left _ hx)).1
      rw [PromptUnit.shownEntry, Station.joined, hl, List.append_assoc, List.find?_append, List.find?_eq_none.2 (by simpa using first)]
      simp [hu]
    rw [Station.raise_free hfree hroom, Station.offerShown_higher shown hrank]
    intro l q
    have joined : (s.joined k f).prm.list = front ++ u :: (back ++ [e]) := by
      rw [Station.joined, hl, List.append_assoc]
      rfl
    have apart (v : PromptEntry) (hv : v ∈ front ++ (back ++ [e])) : v.num ≠ u.num := by
      rw [← List.append_assoc] at hv
      rcases List.mem_append.1 hv with hv | hv
      · exact (hothers v hv).2
      · rw [List.mem_singleton.1 hv]
        exact (hfree u (by simp [hl])).symm
    have unshown := map_num_between (f := fun u => { u.quiet with shown := false }) apart
    have last : (s.joined k f).prm.find num = some e :=
      PromptUnit.find_between (u := e) (front := s.prm.list) (back := []) rfl hfree
    have room : (s.joined k f).prm.clears.length ≤ 7 := (List.length_filter_le _ _).trans hclears
    rw [Station.preempt_of_find last, joined, unshown, pushClear_of_room room]
    have same : front ++ { u.quiet with shown := false } :: (back ++ [e]) = l := by
      rw [← List.cons_append, ← List.append_assoc]
      rfl
    have hidden : ∀ v ∈ l, v.shown = false := by
      rw [← same]
      intro v hv
      rcases List.mem_append.1 hv with hv | hv
      · exact (hothers v (List.mem_append_left _ hv)).1
      · rcases List.mem_cons.1 hv with rfl | hv
        · rfl
        · rcases List.mem_append.1 hv with hv | hv
          · exact (hothers v (List.mem_append_right _ hv)).1
          · rw [List.mem_singleton.1 hv]
    have kept : q.prm.list = l := Station.post_list (s := { told l with prm := { (told l).prm with
      clears := (told l).prm.clears ++ [⟨u.num, .preempted, .none⟩] } }) hidden _ _ _
    have shown_last : (q.prm.list.map fun v => if v.num = num then { v.quiet with shown := true } else v) =
        front ++ { u with shown := false, heard := false, resend := none, drop := .none } :: back ++ [{ e with shown := true }] := by
      rw [kept]
      refine map_num_between (u := e) (f := fun v => { v.quiet with shown := true }) (back := []) fun v hv => ?_
      rw [List.append_nil] at hv
      rcases List.mem_append.1 hv with hv | hv
      · exact hfree v (hl ▸ List.mem_append_left _ hv)
      · rcases List.mem_cons.1 hv with rfl | hv
        · exact hfree u (by simp [hl])
        · exact hfree v (hl ▸ List.mem_append_right _ (List.mem_cons_of_mem _ hv))
    rw [same, ← shown_last]
    rfl
  · have full : ¬ (k.requestBound || decide (s.prm.general.length ≤ 5)) = true := by
      rw [hk, Bool.false_or, decide_eq_true_eq]
      exact Nat.not_le.2 h6
    have no_notice : (s.prm.general.find? fun u => u.level == .notice) = none := List.find?_eq_none.2 fun u hu => by simpa using hnone u hu
    rw [Station.raise, if_neg full, no_notice]
  · intro left l chosen
    have row := Station.raise_displaces hk h6 hv f
    have hmem : v ∈ s.prm.list := (List.mem_filter.1 (List.mem_of_find?_eq_some hv)).1
    refine ⟨fun hkind => ?_, fun hkind => ?_, fun huniq => ⟨fun hs => ?_, fun hs hclears => ?_⟩⟩
    · rw [row, Station.toldDisplaced, hkind]
      rfl
    · rw [row]
      rcases hkind with h | h | h <;> rw [Station.toldDisplaced, h] <;> rfl
    · exact Station.leavePrompt_queued (PromptUnit.find_of_unique hmem huniq) hs _
    · refine (Station.leavePrompt_shown (PromptUnit.find_of_unique hmem huniq) hs _).trans ?_
      rw [Station.postClear, pushClear_of_room hclears]
      rfl
  · rw [Station.chooseShown_between hl hs hf hb, Station.showPrompt_between hl hn]
    rfl

end Sys2Proof.Machine
end

section
/-! SUPPORT and PROOFS. The timers of prompts and the postings after drops (O54). -/

namespace Sys2Proof.Machine

/-! ## What is due (R161 to R163) -/

theorem Station.expiriesDue_eq (s : Station) :
    s.expiriesDue = s.prm.list.filter fun u => decide (u.level = .notice) && decide (u.raised + 30 ≤ s.ctl.second) :=
  List.filter_congr fun _ _ => by rw [PromptEntry.expiryDue, beq_eq_decide]; rfl

theorem Station.escalationsDue_eq (s : Station) :
    s.escalationsDue = s.prm.list.filter fun u => decide (u.level = .action) && decide (u.raised + 60 ≤ s.ctl.second) :=
  List.filter_congr fun _ _ => by rw [PromptEntry.escalationDue, beq_eq_decide]; rfl

theorem Station.resendsDue_eq (s : Station) : s.resendsDue =
    s.prm.list.filter fun u => u.shown && decide (u.level = .urgent) && u.resend.any fun r => decide (r ≤ s.ctl.second) :=
  List.filter_congr fun _ _ => by rw [PromptEntry.resendDue, beq_eq_decide]; rfl

/-! ## Levels in the list (R172) -/

theorem any_urgent_map {l : List PromptEntry} {f : PromptEntry → PromptEntry} (h : ∀ e, (f e).level = e.level) :
    ((l.map f).any fun e => e.level == .urgent) = l.any fun e => e.level == .urgent := by
  rw [List.any_map]
  exact List.any_congr rfl fun e => by rw [Function.comp_apply, h]

theorem Station.statePrompt_urgent (s : Station) (n : Nat) :
    ((s.statePrompt n).prm.list.any fun e => e.level == .urgent) = s.prm.list.any fun e => e.level == .urgent := by
  have quiet : ((s.updatePrompt n PromptEntry.quiet).prm.list.any fun e => e.level == .urgent) =
      s.prm.list.any fun e => e.level == .urgent := any_urgent_map fun e => by split <;> rfl
  unfold Station.statePrompt
  dsimp only
  split
  · exact (Station.post_marked _ _ _ _).urgent.trans quiet
  · exact quiet

theorem Station.preempt_urgent (s : Station) (m n : Nat) :
    ((s.preempt m n).prm.list.any fun e => e.level == .urgent) = s.prm.list.any fun e => e.level == .urgent := by
  refine (Station.statePrompt_urgent _ _).trans ((any_urgent_map fun e => by split <;> rfl).trans ?_)
  exact (Station.post_marked _ _ _ _).urgent.trans (any_urgent_map fun e => by split <;> rfl)

theorem Station.driveBeacon_of {s : Station} {b : Bool} (h : (s.prm.list.any fun e => e.level == .urgent) = b) :
    s.driveBeacon = { s with prm := { s.prm with beacon := b } } := by
  rw [Station.driveBeacon, h]

/-- Where all that is SHOWN has one number, the marks of a posting are gone with that number. -/
theorem Marked.filter {l m : List PromptEntry} (h : Marked l m) {n : Nat} (hs : ∀ e ∈ l, e.shown = true → e.num = n) :
    (m.filter fun u => u.num != n) = l.filter fun u => u.num != n := by
  obtain ⟨g, hg, rfl⟩ := h
  have num (e : PromptEntry) : (g e).num = e.num := by rcases hg e with h | ⟨-, h⟩ <;> rw [h]
  rw [List.filter_map]
  have same : (fun u : PromptEntry => u.num != n) ∘ g = fun u => u.num != n := funext fun e => by rw [Function.comp_apply, num]
  rw [same]
  refine (List.map_congr_left (g := id) fun e he => ?_).trans (List.map_id _)
  obtain ⟨hl, hn⟩ := List.mem_filter.1 he
  exact (hg e).resolve_right fun hx => (bne_iff_ne.1 hn) (hs e hl hx.1)

/-! ## Expiry (R161) -/

/-- A raising unit that an expired NOTICE is of: the Request Unit. -/
theorem Station.toldExpired_waiting {s : Station} {e : PromptEntry} (h : e.kind = .requestWaiting) :
    s.toldExpired e = { s with req := { s.req with
      table := s.req.table.map fun u => if u.prompt = some e.num then { u with prompt := none } else u } } := by
  rw [Station.toldExpired, h]
  rfl

/-- A raising unit that an expired NOTICE is of: the Accounting Unit. -/
theorem Station.toldExpired_account {s : Station} {e : PromptEntry} (h : e.kind = .cleanDue ∨ e.kind = .accountsFull ∨ e.kind = .storeLost) :
    s.toldExpired e = { s with
      acc := s.acc.map fun u => if u.status = .raised e.num then { u with status := .none, displaced := false } else u } := by
  rcases h with h | h | h <;> rw [Station.toldExpired, h] <;> rfl

/-- One NOTICE is due: it leaves the list and its raising unit is told (R161). -/
theorem Station.onPromptExpiry_one {s : Station} {e : PromptEntry} (h : s.expiriesDue = [e]) :
    s.onPromptExpiry = ((s.leavePrompt e.num .expired).toldExpired e).finish := by
  unfold Station.onPromptExpiry
  rw [h]
  rfl

/-- A NOTICE that leaves SHOWN: of the others the oldest of the highest level is SHOWN and stated (R158, R160). -/
theorem Station.leavePrompt_next {s : Station} {e v : PromptEntry} {front back : List PromptEntry} {reason : ClearReason}
    (he : s.prm.find e.num = some e) (hs : e.shown = true) (only : ∀ u ∈ s.prm.list, u.shown = true → u = e)
    (hl : (s.prm.list.filter fun u => u.num != e.num) = front ++ v :: back) (hf : ∀ u ∈ front, u.level.rank < v.level.rank)
    (hb : ∀ u ∈ back, u.level.rank ≤ v.level.rank) (hn : ∀ u ∈ front ++ back, u.num ≠ v.num) :
    s.leavePrompt e.num reason =
      let q := s.postClear e.num reason
      let z := Station.post { q with prm := { q.prm with list := (q.prm.list.filter fun u => u.num != e.num).map fun u =>
        if u.num = v.num then { u.quiet with shown := true } else u } } .prompt 63 v.msg
      { z with prm := { z.prm with beacon := (front ++ v :: back).any fun u => u.level == .urgent } } := by
  let q := s.postClear e.num reason
  let left : Station := { q with prm := { q.prm with list := q.prm.list.filter fun u => u.num != e.num } }
  have posted : Marked s.prm.list q.prm.list := Station.post_marked { s with prm := { s.prm with clears := _ } } _ _ _
  have rest : left.prm.list = front ++ v :: back := by
    rw [← hl]
    exact posted.filter fun u hu hshown => by rw [only u hu hshown]
  have hidden (u : PromptEntry) (hu : u ∈ left.prm.list) : u.shown = false := by
    rw [rest, ← hl] at hu
    obtain ⟨hmem, hne⟩ := List.mem_filter.1 hu
    exact Bool.eq_false_iff.2 fun hshown => bne_iff_ne.1 hne (by rw [only u hmem hshown])
  have found : left.prm.find v.num = some v := PromptUnit.find_between rest fun u hu => hn u (List.mem_append_left _ hu)
  rw [Station.leavePrompt_shown he hs]
  have shown : left.chooseShown = _ := (Station.chooseShown_between rest hidden hf hb).trans (Station.showPrompt_of_find found)
  refine (congrArg Station.driveBeacon shown).trans (Station.driveBeacon_of ?_)
  rw [(Station.post_marked _ _ _ _).urgent, ← rest]
  exact any_urgent_map fun u => by split <;> rfl

/-! ## Escalation (R162) -/

theorem Station.onPromptEscalation_one {s : Station} {e : PromptEntry} (ho : s.expiriesDue = []) (h : s.escalationsDue = [e]) :
    s.onPromptEscalation = (s.escalatePrompt e).finish := by
  unfold Station.onPromptEscalation
  rw [ho, h]
  rfl

/-- The list with the entry of a number URGENT (R162). -/
def Station.madeUrgent (s : Station) (n : Nat) : Station := s.updatePrompt n fun u => { u with level := .urgent }

theorem Station.escalatePrompt_of_find {s : Station} {e : PromptEntry} (h : s.prm.find e.num = some e) : s.escalatePrompt e =
    (if e.shown then (s.madeUrgent e.num).statePrompt e.num else (s.madeUrgent e.num).offerShown e.num .urgent).driveBeacon := by
  unfold Station.escalatePrompt
  rw [h]
  rfl

theorem Station.madeUrgent_find {s : Station} {e : PromptEntry} (h : s.prm.find e.num = some e) :
    (s.madeUrgent e.num).prm.find e.num = some { e with level := .urgent } := by
  have num (u : PromptEntry) : (if u.num = e.num then { u with level := .urgent } else u : PromptEntry).num = u.num := by split <;> rfl
  exact (PromptUnit.find_map rfl num _).trans (by rw [h, Option.map_some, if_pos rfl])

theorem Station.madeUrgent_any {s : Station} {e : PromptEntry} (h : s.prm.find e.num = some e) :
    ((s.madeUrgent e.num).prm.list.any fun u => u.level == .urgent) = true := by
  have hmem := List.mem_of_find?_eq_some (Station.madeUrgent_find h)
  exact List.any_eq_true.2 ⟨_, hmem, rfl⟩

/-- The SHOWN entry of another number is SHOWN as before. -/
theorem Station.madeUrgent_shown {s : Station} {n : Nat} {v : PromptEntry} (h : s.prm.shownEntry = some v) (hv : v.num ≠ n) :
    (s.madeUrgent n).prm.shownEntry = some v := by
  have shown : (fun u : PromptEntry => u.shown) ∘ (fun u => if u.num = n then { u with level := .urgent } else u) = fun u => u.shown :=
    funext fun u => by rw [Function.comp_apply]; split <;> rfl
  refine (List.find?_map ..).trans ?_
  rw [shown]
  refine (congrArg (Option.map _) h).trans ?_
  rw [Option.map_some, if_neg hv]

/-! ## Re-send (R163) and the postings after drops (R164, R165) -/

theorem Station.onPromptResend_one {s : Station} {e : PromptEntry} (ho : s.expiriesDue = []) (hs : s.escalationsDue = [])
    (h : s.resendsDue = [e]) : s.onPromptResend = (s.statePrompt e.num).finish := by
  unfold Station.onPromptResend
  rw [ho, hs, h]
  rfl

/-- A PROMPT posted, dropped or not, leaves the clear list (R165). -/
theorem Station.post_prompt_clears (s : Station) (b : Block) (d : Nat) (p : PromptMsg) : (s.post b d (.prompt p)).prm.clears = s.prm.clears := by
  unfold Station.post Station.settle
  split
  · rfl
  next v hv =>
    rcases Liu.post_dropped hv with rfl | ⟨hu, -⟩
    · rfl
    · cases hu

theorem Station.repostDropped_busy {s : Station} (h : ¬ (s.expiriesDue = [] ∧ s.escalationsDue = [] ∧ s.resendsDue = [])) :
    s.repostDropped = s := if_neg fun hx => h (by simpa [and_assoc] using hx)

theorem Station.repostDropped_quiet {s : Station} (h : s.expiriesDue = [] ∧ s.escalationsDue = [] ∧ s.resendsDue = []) :
    s.repostDropped =
      let y := (s.prm.list.filter fun e => e.shown && e.drop == .due).foldl (fun s e => s.statePrompt e.num) s
      (y.prm.clears.filter fun c => c.drop == .due).foldl Station.repostClear y :=
  if_pos (by simp [h])

theorem PromptUnit.clearStillTrue_iff {p : PromptUnit} {c : ClearRecord} : p.clearStillTrue c = true ↔
    if c.reason = .preempted then ∃ u, p.list.find? (fun u => u.num == c.num) = some u ∧ u.shown = false
      else ∀ u ∈ p.list, u.num ≠ c.num := by
  unfold PromptUnit.clearStillTrue
  split
  next h => simp [h, PromptUnit.find, Option.any_eq_true]
  next h =>
    rw [if_neg h, Option.isNone_iff_eq_none, PromptUnit.find, List.find?_eq_none]
    simp

/-- What is still true is said of numbers and of what is SHOWN (R165). -/
theorem PromptUnit.clearStillTrue_congr {p q : PromptUnit} {g : PromptEntry → PromptEntry} (hg : ∀ e, (g e).shown = e.shown)
    (h : ∀ n, q.find n = (p.find n).map g) (c : ClearRecord) : q.clearStillTrue c = p.clearStillTrue c := by
  unfold PromptUnit.clearStillTrue
  split
  · rw [h, Option.any_map]
    exact congrArg (fun f => Option.any f (p.find c.num)) (funext fun e => congrArg not (hg e))
  · rw [h, Option.isNone_map]

theorem erase_between {front back : List ClearRecord} {c : ClearRecord} (h : ∀ v ∈ front, v ≠ c) :
    (front ++ c :: back).erase c = front ++ back := by
  rw [List.erase_append_right _ fun hc => h c hc rfl, List.erase_cons_head]

/-- What an entry stated again leaves of the numbers, of what is SHOWN, and of the clear list (R164). -/
theorem Station.statePrompt_keeps {s : Station} {n : Nat} {e : PromptEntry} (h : s.prm.find n = some e) :
    (s.statePrompt n).prm.clears = s.prm.clears ∧ ∀ c, (s.statePrompt n).prm.clearStillTrue c = s.prm.clearStillTrue c := by
  rw [Station.statePrompt_of_find h]
  refine ⟨Station.post_prompt_clears _ _ _ _, fun c => ?_⟩
  obtain ⟨g, hg, hfind⟩ := (Station.post_marked { s with prm := { s.prm with
    list := s.prm.list.map fun u => if u.num = n then u.quiet else u } } .prompt 63 e.msg).find
  rw [PromptUnit.clearStillTrue_congr (fun e => (hg e).2) hfind]
  refine PromptUnit.clearStillTrue_congr (g := fun u => if u.num = n then u.quiet else u) (fun u => ?_) (PromptUnit.find_map rfl fun u => ?_) c
  · split <;> rfl
  · split <;> rfl

/-- The one PROMPT-CLEAR due is posted again where it is still true, and its record goes otherwise (R165). -/
theorem Station.repostClears_one {y : Station} {front back : List ClearRecord} {c : ClearRecord} (hl : y.prm.clears = front ++ c :: back)
    (hc : c.drop = .due) (ho : ∀ v ∈ front ++ back, v.drop ≠ .due) :
    (y.prm.clears.filter fun c => c.drop == .due).foldl Station.repostClear y =
      if y.prm.clearStillTrue c then Station.post { y with prm := { y.prm with
        clears := front ++ back ++ [{ c with drop := .none }] } } .prompt 63 (.clear c.num c.reason)
      else { y with prm := { y.prm with clears := front ++ back } } := by
  have others {l : List ClearRecord} (h : ∀ v ∈ l, v.drop ≠ .due) : (l.filter fun c => c.drop == .due) = [] :=
    List.filter_eq_nil_iff.2 fun v hv => by simpa using h v hv
  have due : (y.prm.clears.filter fun c => c.drop == .due) = [c] := by
    rw [hl, List.filter_append, List.filter_cons_of_pos (by simp [hc]), others fun v hv => ho v (List.mem_append_left _ hv),
      others fun v hv => ho v (List.mem_append_right _ hv), List.nil_append]
  have left : y.prm.clears.erase c = front ++ back := by
    rw [hl]
    exact erase_between fun v hv => fun heq => ho v (List.mem_append_left _ hv) (heq ▸ hc)
  rw [due, List.foldl_cons, List.foldl_nil, Station.repostClear, left]

/-- Settles O54: a posting keeps numbers, levels and what is SHOWN, so each timer's work is known entry by entry. -/
theorem promptTimersExpire : Obligations.PromptTimersExpire := by
  refine ⟨fun s e => ?_, fun s => ?_⟩
  · intro x old slow again list pushed huniq
    have found {p : PromptEntry → Bool} (h : x.prm.list.filter p = [e]) : x.prm.find e.num = some e :=
      PromptUnit.find_of_unique (List.mem_of_mem_filter (h ▸ List.mem_singleton_self e : e ∈ x.prm.list.filter p)) huniq
    have expires (h : x.prm.list.filter old = [e]) := Station.onPromptExpiry_one (x.expiriesDue_eq.trans h)
    have escalates (ho : x.prm.list.filter old = []) (h : x.prm.list.filter slow = [e]) :=
      Station.onPromptEscalation_one (x.expiriesDue_eq.trans ho) (x.escalationsDue_eq.trans h)
    have apart {v : PromptEntry} (hs : e.shown = false) (hv : x.prm.list.find? (fun u => u.shown) = some v) : v.num ≠ e.num := fun hnum => by
      have shown : v.shown = true := List.find?_some hv
      rw [huniq v (List.mem_of_find?_eq_some hv) hnum, hs] at shown
      cases shown
    refine ⟨fun h hs => ?_, fun h hone hs hk hclears => ?_, fun front v back h hs only hl hf hb hn => ?_,
      fun ho h => ⟨fun v hs hv hlevel => ?_, fun hs => ?_, fun u hs hu hlevel => ?_⟩, fun ho hsl h => ?_⟩
    · intro l y
      have left : x.leavePrompt e.num .expired = y := Station.leavePrompt_queued (found h) hs _
      refine ⟨fun hk => next_station ((expires h).trans (congrArg Station.finish ?_)),
        fun hk => next_station ((expires h).trans (congrArg Station.finish ?_))⟩
      · rw [left, Station.toldExpired_waiting hk]
      · rw [left, Station.toldExpired_account hk]
    · intro q
      have posted : Marked [e] q.prm.list := hone ▸ Station.post_marked { x with prm := { x.prm with clears := _ } } _ _ _
      have gone : (q.prm.list.filter fun u => u.num != e.num) = [] := by
        rw [posted.filter fun u hu _ => by rw [List.mem_singleton.1 hu]]
        simp
      have left : x.leavePrompt e.num .expired = { q with prm := { q.prm with list := [], beacon := false } } := by
        rw [Station.leavePrompt_shown (found h) hs, Station.postClear, pushClear_of_room hclears]
        refine (congrArg (fun l => Station.driveBeacon (Station.chooseShown { q with prm := { q.prm with list := l } })) gone).trans ?_
        rw [Station.chooseShown_empty rfl]
        rfl
      refine next_station ((expires h).trans (congrArg Station.finish ?_))
      rw [left, Station.toldExpired_waiting hk]
    · intro q z y
      have left : x.leavePrompt e.num .expired = y := Station.leavePrompt_next (found h) hs only hl hf hb hn
      refine ⟨fun hk => next_station ((expires h).trans (congrArg Station.finish ?_)),
        fun hk => next_station ((expires h).trans (congrArg Station.finish ?_))⟩
      · rw [left, Station.toldExpired_waiting hk]
      · rw [left, Station.toldExpired_account hk]
    · intro q z
      refine next_station ((escalates ho h).trans (congrArg Station.finish ?_))
      have lower : v.level.rank < Level.urgent.rank := by cases hl : v.level <;> simp_all [Level.rank]
      have preempted : (x.madeUrgent e.num).offerShown e.num .urgent = z := by
        rw [Station.offerShown_higher (Station.madeUrgent_shown hv (apart hs hv)) lower,
          Station.preempt_of_find (Station.madeUrgent_find (found h))]
        rfl
      rw [Station.escalatePrompt_of_find (found h), hs, if_neg Bool.false_ne_true, Station.driveBeacon_of (b := true), preempted]
      rw [Station.offerShown_higher (Station.madeUrgent_shown hv (apart hs hv)) lower, Station.preempt_urgent]
      exact Station.madeUrgent_any (found h)
    · intro q
      refine next_station ((escalates ho h).trans (congrArg Station.finish ?_))
      have again_stated : (x.madeUrgent e.num).statePrompt e.num = q := by
        have twice : ((x.madeUrgent e.num).prm.list.map fun u => if u.num = e.num then u.quiet else u) =
            list fun u => { u with level := .urgent, heard := false, resend := none, drop := .none } := by
          refine (List.map_map ..).trans (List.map_congr_left fun u _ => ?_)
          by_cases hu : u.num = e.num
          · simp only [Function.comp_apply, if_pos hu, PromptEntry.quiet]
          · simp only [Function.comp_apply, if_neg hu]
        rw [Station.statePrompt_of_find (Station.madeUrgent_find (found h)), twice]
        rfl
      rw [Station.escalatePrompt_of_find (found h), hs, if_pos rfl, ← again_stated]
      exact Station.driveBeacon_of ((Station.statePrompt_urgent _ _).trans (Station.madeUrgent_any (found h)))
    · refine next_station ((escalates ho h).trans (congrArg Station.finish ?_))
      rw [Station.escalatePrompt_of_find (found h), hs, if_neg Bool.false_ne_true,
        Station.offerShown_lower (Station.madeUrgent_shown hu (apart hs hu)) (by rw [hlevel])]
      exact Station.driveBeacon_of (Station.madeUrgent_any (found h))
    · have hlevel : e.level = .urgent := by
        have hmem : e ∈ x.prm.list.filter again := h ▸ List.mem_singleton_self e
        have := (List.mem_filter.1 hmem).2
        simp only [again, Bool.and_eq_true, decide_eq_true_eq] at this
        exact this.1.2
      refine next_station ((Station.onPromptResend_one (x.expiriesDue_eq.trans ho) (x.escalationsDue_eq.trans hsl)
        (x.resendsDue_eq.trans h)).trans (congrArg Station.finish ?_))
      rw [Station.statePrompt_of_find (found h), PromptEntry.msg, hlevel]
      rfl
  · intro busy
    have quiet_iff : (∀ u ∈ s.prm.list, ¬ busy u) ↔ s.expiriesDue = [] ∧ s.escalationsDue = [] ∧ s.resendsDue = [] := by
      simp only [s.expiriesDue_eq, s.escalationsDue_eq, s.resendsDue_eq, List.filter_eq_nil_iff, ← forall₂_and]
      refine forall₂_congr fun u _ => ?_
      simp only [busy, not_or, Bool.and_eq_true, decide_eq_true_eq, Option.any_eq_true, and_assoc]
    refine ⟨fun ⟨u, hu, hb⟩ => Station.repostDropped_busy fun h => quiet_iff.2 h u hu hb, fun q hquiet hq => ?_⟩
    have stated : (s.prm.list.filter fun e => e.shown && e.drop == .due).foldl (fun s e => s.statePrompt e.num) s = q ∧
        q.prm.clears = s.prm.clears ∧ ∀ c, q.prm.clearStillTrue c = s.prm.clearStillTrue c := by
      rcases hq with ⟨hnone, rfl⟩ | ⟨e, hone, huniq, rfl⟩
      · have empty : (q.prm.list.filter fun e => e.shown && e.drop == .due) = [] := List.filter_eq_nil_iff.2 fun u hu => by
          rcases hnone u hu with h | h <;> simp [h]
        exact ⟨by rw [empty]; rfl, rfl, fun _ => rfl⟩
      · have hmem : e ∈ s.prm.list := List.mem_of_mem_filter (hone ▸ List.mem_singleton_self e : e ∈ s.prm.list.filter _)
        have found := PromptUnit.find_of_unique hmem huniq
        have row := Station.statePrompt_of_find found
        refine ⟨by rw [hone]; exact row, ?_⟩
        exact row ▸ Station.statePrompt_keeps found
    obtain ⟨hstated, hclears, htrue⟩ := stated
    have row : s.repostDropped = (q.prm.clears.filter fun c => c.drop == .due).foldl Station.repostClear q := by
      rw [Station.repostDropped_quiet (quiet_iff.1 hquiet), hstated]
    refine ⟨fun hnone => ?_, fun front c back hl hc ho => ?_⟩
    · have empty : (q.prm.clears.filter fun c => c.drop == .due) = [] := List.filter_eq_nil_iff.2 fun c hc => by
        simpa using hnone c (hclears ▸ hc)
      rw [row, empty]
      rfl
    · intro still
      have still_iff : q.prm.clearStillTrue c = true ↔ still := by
        rw [htrue]
        exact PromptUnit.clearStillTrue_iff
      rw [row, Station.repostClears_one (hclears.trans hl) hc ho]
      exact ⟨fun h => if_pos (still_iff.2 h), fun h => if_neg fun hx => h (still_iff.1 hx)⟩

end Sys2Proof.Machine
end

section
/-! SUPPORT and PROOFS. Answers, replies and prompt frames (O51, O52, O53). -/

namespace Sys2Proof.Machine

/-! ## The answers (R140, R145, R151, R171) -/

/-- The record as its answer is taken: assisted, waiting no more (R139). -/
def ReqRecord.freed (r : ReqRecord) : ReqRecord := { r with assisted := true, waiting := none, prompt := none }

theorem Station.updateRecord_of {s : Station} {r : ReqRecord} (h : s.seq.record = some r) (f : ReqRecord → ReqRecord) :
    s.updateRecord f = { s with seq := { s.seq with record := some (f r) } } := by
  rw [Station.updateRecord, h, Option.map_some]

/-- The answer to the standing prompt of the request takes its effect on the freed record (R139, R140). -/
theorem Station.boundAnswer_of {s : Station} {r : ReqRecord} {c : Call} {n : Nat} {k : PromptKind} (hr : s.seq.record = some r)
    (hc : s.callOf r.tag = some c) (hk : r.waiting = some k) (hn : r.prompt = some n) (a : Answer) :
    s.boundAnswer n k a = Station.boundEffect { s with seq := { s.seq with record := some r.freed } } r c k a := by
  have freed : (s.updateRecord fun r => { r with assisted := true, waiting := none, prompt := none }) =
      { s with seq := { s.seq with record := some r.freed } } := Station.updateRecord_of hr _
  unfold Station.boundAnswer
  rw [Station.activeCall_of hr hc, freed, hr]
  exact if_pos ⟨hk, hn⟩

theorem Station.toldAnswer_bound {e : PromptEntry} (h : e.kind.requestBound = true) (s : Station) (a : Answer) :
    s.toldAnswer e a = s.boundAnswer e.num e.kind a := by
  unfold Station.toldAnswer
  split <;> first | rfl | (rename_i hk; rw [hk] at h; cases h)

/-- Settles O53: a bound answer takes its effect on the freed record, and every other answer is one arm of `toldAnswer`. -/
theorem answersTakeEffect : Obligations.AnswersTakeEffect := by
  refine ⟨fun s e r c hr hc hw hp => ?_, fun s e a => ⟨fun g hk hg hp => ?_, fun hk hp => ?_, fun hk => ⟨fun hres => ?_, fun hres => ?_⟩,
    fun r hk hr => ?_, fun hk => ?_, fun hk => ?_⟩⟩
  · intro freed put go ends carry
    have bound {k : PromptKind} (hk : e.kind = k) (hb : k.requestBound = true) (a : Answer) :
        s.toldAnswer e a = (put freed).boundEffect r c k a := by
      subst hk
      exact (Station.toldAnswer_bound hb s a).trans (Station.boundAnswer_of hr hc hw hp a)
    exact ⟨fun hk => ⟨bound hk rfl .cont, bound hk rfl .skip⟩, fun hk => ⟨bound hk rfl .retry, bound hk rfl .skip⟩,
      fun hk => ⟨bound hk rfl .accept, bound hk rfl .returnReel, bound hk rfl .skip⟩,
      fun hk => ⟨bound hk rfl .cont, bound hk rfl .skip⟩, fun hk => ⟨bound hk rfl .retry, bound hk rfl .window⟩⟩
  · rw [Station.toldAnswer, hk]
    simp only [Station.faultAnswer, hg, Option.map_some, FaultRecord.answered, hp, if_true]
  · rw [Station.toldAnswer, hk]
    exact if_pos hp
  · rw [Station.toldAnswer, hk]
    exact if_neg hres
  · rw [Station.toldAnswer, hk]
    exact if_pos hres
  · intro y z
    rw [Station.toldAnswer, hk]
    simp only [Station.silentAnswered, hr]
    rfl
  · rw [Station.toldAnswer, hk]
    rfl
  · rcases hk with hk | hk | hk <;> rw [Station.toldAnswer, hk] <;> rfl

/-! ## REPLY (R150, R167 to R169) -/

theorem Station.doorMatch_iff {s : Station} {h : Heard} {st num : Nat} {a : Answer} : s.doorMatch h st num a = true ↔
    a = .cont ∧ h.dst = st ∧ ∃ d ∈ s.seq.door.numbers, d.addr = st ∧ d.num = num := by
  simp [Station.doorMatch, and_assoc]

/-- A REPLY to the station goes to the Prompt Unit first, and is a door release besides where it names one (R150, R167). -/
theorem Station.takeReplyFrame_mine {s : Station} {h : Heard} {st : Nat} (hm : h.dst = s.cv.address ∧ st = s.cv.address) (num : Nat)
    (a : Answer) : Station.takeReplyFrame h (.reply st num a) s =
      if (s.promptReply num a).2 || s.doorMatch h st num a then (s.promptReply num a).1.doorRelease else (s.promptReply num a).1 := by
  unfold Station.takeReplyFrame
  simp [Station.addressed, hm.1, hm.2]

theorem Station.takeReplyFrame_other {s : Station} {h : Heard} {st : Nat} (hm : ¬ (h.dst = s.cv.address ∧ st = s.cv.address)) (num : Nat)
    (a : Answer) : Station.takeReplyFrame h (.reply st num a) s = if s.doorMatch h st num a then s.doorRelease else s := by
  have other : (s.addressed h && st == s.cv.address) = false := by
    rw [← Bool.not_eq_true]
    simpa [Station.addressed] using hm
  unfold Station.takeReplyFrame
  simp only [other, Bool.false_eq_true, if_false, Bool.false_or]

theorem Station.promptReply_late {s : Station} {num : Nat} {a : Answer} (h : ∀ e, s.prm.shownEntry = some e → e.num = num →
    e.kind.allows a = true → e.kind = .doorOpen ∧ s.pins.door = true) : s.promptReply num a = (s.countLateReply, false) := by
  unfold Station.promptReply
  split
  · rfl
  next e he =>
    refine if_neg fun hx => ?_
    simp only [Station.answers, Bool.and_eq_true, beq_iff_eq] at hx
    obtain ⟨⟨hn, ha⟩, hd⟩ := hx
    obtain ⟨hk, hdoor⟩ := h e he hn ha
    simp [hk, hdoor] at hd

theorem Station.promptReply_taken {s : Station} {e : PromptEntry} {num : Nat} {a : Answer} (he : s.prm.shownEntry = some e)
    (hn : e.num = num) (ha : e.kind.allows a = true) (hd : e.kind ≠ .doorOpen ∨ s.pins.door = false) :
    s.promptReply num a = ((s.leavePrompt num .answered).toldAnswer e a, e.kind == .doorOpen) := by
  unfold Station.promptReply
  rw [he]
  exact if_pos (by simpa [Station.answers, hn, ha] using hd)

/-- The latch is cleared with the door closed, the door record emptied, a REPORT owed unless a fault is open (R150). -/
def Station.doorReleased (s : Station) : Station := Station.conditionCleared { s with seq := { s.seq with
  doorLatch := false, door := ⟨[], false, false, none, false, none⟩, doorReportOwed := s.seq.doorReportOwed || s.seq.fault.isNone } }

theorem Station.doorReleased_eq (s : Station) : s.doorReleased = Station.conditionCleared { s with seq := { s.seq with
    doorLatch := false, door := DoorRecord.reset, doorReportOwed := s.seq.doorReportOwed || !s.faulted } } := by
  rw [Station.faulted, Option.not_isSome]
  rfl

theorem Station.doorRelease_unraised {s : Station} (hl : s.seq.doorLatch = true) (hd : s.pins.door = false)
    (h : s.seq.door.raised = false ∨ s.seq.door.prompt = none) : s.doorRelease = s.doorReleased := by
  unfold Station.doorRelease
  rw [if_pos hl, if_neg (by simp [hd]), s.doorReleased_eq]
  split
  next hr hp => simp [hr, hp] at h
  next => rfl

theorem Station.doorRelease_raised {s : Station} {num : Nat} (hl : s.seq.doorLatch = true) (hd : s.pins.door = false)
    (hr : s.seq.door.raised = true) (hp : s.seq.door.prompt = some num) :
    s.doorRelease = (s.withdrawPrompt .sequencer num).doorReleased := by
  unfold Station.doorRelease
  rw [if_pos hl, if_neg (by simp [hd]), hr, hp, Station.doorReleased_eq]

/-- Settles O52: whether the REPLY answers and whether it is a door release are decided apart. -/
theorem replyIsTaken : Obligations.ReplyIsTaken := by
  refine ⟨?_, fun s => ⟨fun hl hd => ?_, fun hl hd => ⟨Station.doorRelease_unraised hl hd, fun num => Station.doorRelease_raised hl hd⟩,
    fun hl => ?_⟩⟩
  · intro s own src dst st num a rest hs hm x mine release taken late counted
    have row {y : Station} (hy : Station.takeReplyFrame ⟨own, src, dst⟩ (.reply st num a) x = y) :
        exec .reply s = .next { s with station := y.finish.dequeue } :=
      next_hear hs rfl (.inr (hearing_of_mode hm)) (act := Station.takeReplyFrame) hy
    have named : x.doorMatch ⟨own, src, dst⟩ st num a = true ↔ release := Station.doorMatch_iff
    have answered {e : PromptEntry} (ht : taken e) (hd : e.kind ≠ .doorOpen ∨ x.pins.door = false) := by
      obtain ⟨he, hn, ha⟩ := ht
      exact Station.promptReply_taken he hn ha hd
    have counts (h : late) : x.promptReply num a = (counted, false) :=
      Station.promptReply_late fun e he hn ha => h e ⟨he, hn, ha⟩
    refine ⟨fun hno hr => row ?_, fun hno hr => row ?_, fun hyes hl hr => row ?_, fun hyes hl hr => row ?_,
      fun e hyes ht hk => ⟨fun hr => row ?_, fun hr => row ?_⟩, fun e hyes ht hk hd => row ?_⟩
    · rw [Station.takeReplyFrame_other hno, if_neg (mt named.1 hr)]
    · rw [Station.takeReplyFrame_other hno, if_pos (named.2 hr)]
    · rw [Station.takeReplyFrame_mine hyes, counts hl]
      exact if_neg (mt named.1 hr)
    · rw [Station.takeReplyFrame_mine hyes, counts hl]
      exact if_pos (named.2 hr)
    · rw [Station.takeReplyFrame_mine hyes, answered ht (.inl hk), if_neg]
      simpa [hk] using mt named.1 hr
    · rw [Station.takeReplyFrame_mine hyes, answered ht (.inl hk), if_pos]
      rw [named.2 hr, Bool.or_true]
    · rw [Station.takeReplyFrame_mine hyes, answered ht (.inr hd), if_pos (by simp [hk])]
      rw [Station.toldAnswer, hk]
  · unfold Station.doorRelease
    rw [if_pos hl, if_pos hd]
  · unfold Station.doorRelease
    rw [if_neg (by simp [hl])]
    rfl

/-! ## PROMPT and PROMPT-CLEAR (R149, R164 to R166) -/

/-- The own echo marks the SHOWN entry of the number and level (R163, R166). -/
theorem Station.promptEcho_eq (s : Station) (n : Nat) (l : Level) : s.promptEcho n l = { s with prm := { s.prm with
    list := s.prm.list.map fun e => if e.num = n ∧ e.shown = true ∧ e.level = l then
      { e with heard := true, resend := if l = .urgent then some (s.ctl.second + 20) else e.resend } else e } } := by
  refine congrArg (fun m => ({ s with prm := { s.prm with list := m } } : Station)) (List.map_congr_left fun e _ => ?_)
  by_cases hn : e.num = n
  · simp only [hn, if_true, true_and]
    rfl
  · simp only [hn, if_false, false_and]

theorem Station.takePromptFrame_plain {s : Station} {h : Heard} {p : PromptMsg} (hk : p.kind ≠ .doorOpen) :
    Station.takePromptFrame h (.prompt p) s = if h.own then s.promptEcho p.num p.level else s.peerPrompt p := if_neg hk

/-- A DOOR-OPEN's number is recorded, the own one's too (R149). -/
theorem Station.takePromptFrame_door {s : Station} {h : Heard} {p : PromptMsg} (hk : p.kind = .doorOpen) :
    Station.takePromptFrame h (.prompt p) s =
      (if h.own then s.promptEcho p.num p.level else s.peerPrompt p).doorHeard h.own h.src p.num := if_pos hk

theorem Station.peerPrompt_other {s : Station} {p : PromptMsg} (hw : p.kind ≠ .requestWaiting) (hs : p.kind ≠ .stationSilent) :
    s.peerPrompt p = s := by
  unfold Station.peerPrompt
  split
  · contradiction
  · contradiction
  · rfl

theorem ClearRecord.awaits_iff {num : Nat} {reason : ClearReason} {x : ClearRecord} :
    x.awaits num (some reason) = true ↔ x.num = num ∧ x.reason = reason ∧ x.drop = .none := by
  simp [ClearRecord.awaits, and_assoc]

theorem removeClear_none {num : Nat} {reason : ClearReason} {l : List ClearRecord}
    (h : ∀ v ∈ l, v.num ≠ num ∨ v.reason ≠ reason ∨ v.drop ≠ .none) : removeClear num reason l = l := by
  induction l with
  | nil => rfl
  | cons x xs ih =>
    obtain ⟨hx, hxs⟩ := List.forall_mem_cons.1 h
    rw [removeClear, if_neg (by tauto), ih hxs]

theorem removeClear_between {front back : List ClearRecord} {c : ClearRecord} (hc : c.drop = .none)
    (h : ∀ v ∈ front, v.num ≠ c.num ∨ v.reason ≠ c.reason ∨ v.drop ≠ .none) :
    removeClear c.num c.reason (front ++ c :: back) = front ++ back := by
  induction front with
  | nil => exact if_pos ⟨rfl, rfl, hc⟩
  | cons x xs ih =>
    obtain ⟨hx, hxs⟩ := List.forall_mem_cons.1 h
    rw [List.cons_append, removeClear, if_neg (by tauto), ih hxs, List.cons_append]

/-- With no such record left for the dropped frame none is marked (R165). -/
theorem markClear_none {num : Nat} {reason : Option ClearReason} {later : Nat} {l : List ClearRecord}
    (h : (l.filter (ClearRecord.awaits num reason)).length ≤ later) : markClear num reason later l = l := by
  induction l with
  | nil => rfl
  | cons x xs ih =>
    have fewer := (List.Sublist.filter (ClearRecord.awaits num reason) (List.sublist_cons_self x xs)).length_le
    rw [markClear, if_neg, ih (fewer.trans h)]
    rintro ⟨hx, hl⟩
    rw [List.filter_cons_of_pos hx, List.length_cons] at h
    omega

/-- The record with as many such ones after it as like frames are queued after the dropped one is marked (R165). -/
theorem markClear_between {num : Nat} {reason : Option ClearReason} {front back : List ClearRecord} {c : ClearRecord}
    (hc : c.awaits num reason = true) :
    markClear num reason (back.filter (ClearRecord.awaits num reason)).length (front ++ c :: back) =
      front ++ { c with drop := .dropped } :: back := by
  induction front with
  | nil => exact if_pos ⟨hc, rfl⟩
  | cons x xs ih =>
    rw [List.cons_append, markClear, if_neg, ih, List.cons_append]
    rintro ⟨-, hl⟩
    rw [List.filter_append, List.filter_cons_of_pos hc, List.length_append, List.length_cons] at hl
    omega

/-- Settles O51: own echoes change the list and the clear list, peers' frames the records of their units. -/
theorem promptFramesAreHeard : Obligations.PromptFramesAreHeard := by
  refine ⟨fun s own src dst rest hm => ⟨fun p hs => ?_, fun num reason hs => ?_⟩, fun s num later reason => ?_⟩
  · have row {y : Station} (hy : Station.takePromptFrame ⟨own, src, dst⟩ (.prompt p) s.station = y) :
        exec .prompt s = .next { s with station := y.finish.dequeue } :=
      next_hear hs rfl (.inr (hearing_of_mode hm)) (act := Station.takePromptFrame) hy
    refine ⟨?_, ?_, ?_, ?_, ?_, ?_⟩
    · rintro rfl hk
      exact row ((Station.takePromptFrame_plain hk).trans (Station.promptEcho_eq _ _ _))
    · rintro rfl hk
      refine row ((Station.takePromptFrame_door hk).trans ?_)
      rw [if_pos rfl, Station.promptEcho_eq, Station.doorHeard]
      simp only [Bool.not_true, Bool.or_false]
    · rintro rfl t hk ht
      refine row ((Station.takePromptFrame_plain (by rw [hk]; decide)).trans ?_)
      simp only [Bool.false_eq_true, if_false, Station.peerPrompt, hk, ht]
      rfl
    · rintro rfl a hk ha
      refine row ((Station.takePromptFrame_plain (by rw [hk]; decide)).trans ?_)
      simp only [Bool.false_eq_true, if_false, Station.peerPrompt, hk, ha]
    · rintro rfl hk
      refine row ((Station.takePromptFrame_door hk).trans ?_)
      rw [if_neg Bool.false_ne_true, Station.peerPrompt_other (by rw [hk]; decide) (by rw [hk]; decide), Station.doorHeard]
      simp only [Bool.not_false, Bool.or_true]
    · rintro rfl hw hsil hd
      exact row ((Station.takePromptFrame_plain hd).trans ((if_neg Bool.false_ne_true).trans (Station.peerPrompt_other hw hsil)))
  · have row {y : Station} (hy : Station.takeClearFrame ⟨own, src, dst⟩ (.clear num reason) s.station = y) :
        exec .promptClear s = .next { s with station := y.finish.dequeue } :=
      next_hear hs rfl (.inr (hearing_of_mode hm)) (act := Station.takeClearFrame) hy
    refine ⟨?_, ?_, ?_⟩
    · rintro rfl
      exact row rfl
    · rintro rfl h
      exact row (congrArg (fun l => ({ s.station with prm := { s.station.prm with clears := l } } : Station)) (removeClear_none h))
    · rintro rfl front c back hl rfl rfl hd h
      refine row (congrArg (fun l => ({ s.station with prm := { s.station.prm with clears := l } } : Station)) ?_)
      exact (congrArg _ hl).trans (removeClear_between hd h)
  · intro awaits
    have same : ClearRecord.awaits num (some reason) = awaits := funext fun v => by
      rw [Bool.eq_iff_iff, ClearRecord.awaits_iff, decide_eq_true_iff]
    refine ⟨fun h => ?_, fun front c back hl hc hlen => ?_⟩
    · rw [← same] at h
      rw [Station.clearDropped, markClear_none h]
    · rw [← same] at hc hlen
      rw [Station.clearDropped, hl, ← hlen, markClear_between hc]

end Sys2Proof.Machine
end

section
/-! SUPPORT and PROOFS. The collector's frames and the close of a period (O57, O58). -/

namespace Sys2Proof.Machine

/-! ## The collector (R183, R187, R188) -/

theorem takes_iff {s : Station} {h : Heard} :
    (s.addressed h && s.ctl.mode == .ready) = true ↔ s.ctl.mode = .ready ∧ h.dst = s.cv.address := by
  simp [Station.addressed, and_comm]

theorem Station.answerTally_refused {s : Station} {w : Which} (h : s.store.closeBusy = true ∨ (w = .closed ∧ s.store.snapHeld = false))
    (first count : Nat) : s.answerTally w first count = s.postTally w .refused (s.store.tallyPeriod w) first [] :=
  if_pos (by simpa using h)

theorem Station.answerTally_ok {s : Station} {w : Which} (hb : s.store.closeBusy = false) (h : w ≠ .closed ∨ s.store.snapHeld = true)
    (first count : Nat) : s.answerTally w first count = s.postTally w .ok (s.store.tallyPeriod w) first (s.store.records w first count) :=
  if_neg (by rcases h with h | h <;> simp [hb, h])

/-- Settles O57: by the conditions under which an ask, a close and a taking are refused. -/
theorem collectorIsAnswered : Obligations.CollectorIsAnswered := by
  intro s own src dst rest x st tally closedPeriod live takes passed
  refine ⟨fun w first count hs => ?_, fun p hs => ?_, fun p hs => ?_⟩
  · have asked (ht : takes) {y : Station} (hy : x.answerTally w first count = y) :
        exec .tallyAsk s = .next { s with station := y.finish.dequeue } :=
      next_hear hs rfl (.inr (hearing_of_mode (.inr ht.1))) (act := Station.takeTallyAskFrame) ((if_pos (takes_iff.2 ht)).trans hy)
    have none_held (hb : st.closeBusy = false) (hh : st.snapHeld = false) : st.tallyPeriod .closed = 0 := by
      simp [RetainedStore.tallyPeriod, hb, hh]
    refine ⟨fun hno hm => ?_, fun ht hb => ?_, fun ht hb hw => ?_, fun ht hb hw hh => ?_, fun ht hb hw hh => ?_, fun ht hb hw => ?_⟩
    · exact next_hear hs rfl (.inr (hearing_of_mode hm)) (act := Station.takeTallyAskFrame) (if_neg (mt takes_iff.1 hno))
    · refine asked ht ((Station.answerTally_refused (.inl hb) first count).trans ?_)
      cases w <;> rfl
    · subst hw
      exact asked ht (Station.answerTally_ok hb (.inl (by decide)) first count)
    · subst hw
      refine asked ht ((Station.answerTally_ok hb (.inr hh) first count).trans ?_)
      rw [RetainedStore.tallyPeriod, if_pos hh]
      rfl
    · subst hw
      refine asked ht ((Station.answerTally_refused (.inr ⟨rfl, hh⟩) first count).trans ?_)
      rw [none_held hb hh]
      rfl
    · subst hw
      exact asked ht (Station.answerTally_ok hb (.inl (by decide)) first count)
  · have closes (ht : takes) {y : Station} (hy : x.periodClose p = y) :
        exec .periodClose s = .next { s with station := y.finish.dequeue } :=
      next_hear hs rfl (.inr (hearing_of_mode (.inr ht.1))) (act := Station.takePeriodCloseFrame) ((if_pos (takes_iff.2 ht)).trans hy)
    refine ⟨fun hno hm => ?_, fun ht h => ?_, fun ht hb hh => ?_⟩
    · exact next_hear hs rfl (.inr (hearing_of_mode hm)) (act := Station.takePeriodCloseFrame) (if_neg (mt takes_iff.1 hno))
    · exact closes ht (if_pos (by simpa using h))
    · exact closes ht (if_neg (by rw [hb, hh]; decide))
  · have taken (ht : takes) {y : Station} (hy : x.tallyTaken p = y) :
        exec .tallyTaken s = .next { s with station := y.finish.dequeue } :=
      next_hear hs rfl (.inr (hearing_of_mode (.inr ht.1))) (act := Station.takeTallyTakenFrame) ((if_pos (takes_iff.2 ht)).trans hy)
    refine ⟨fun hno hm => ?_, fun ht hh hp => ?_, fun ht h => ?_⟩
    · exact next_hear hs rfl (.inr (hearing_of_mode hm)) (act := Station.takeTallyTakenFrame) (if_neg (mt takes_iff.1 hno))
    · exact taken ht (if_pos (by rw [hh, hp]; simp))
    · refine taken ht (if_neg fun hx => ?_)
      obtain ⟨hh, hp⟩ := (Bool.and_eq_true _ _).mp hx
      rcases h with h | h
      · exact absurd (h.symm.trans hh) Bool.false_ne_true
      · exact h (beq_iff_eq.1 hp)

/-! ## A close (R184, R186) -/

theorem RetainedStore.copySlot_of {st : RetainedStore} {x : Slot} (h : st.table.all[st.closing.next]? = some x) :
    st.copySlot = { st with
      snapshot := { st.snapshot with records := st.snapshot.records.take st.closing.next ++ [x] },
      closing := { st.closing with next := st.closing.next + 1, check := crcFrom st.closing.check x.bytes } } := by
  rw [RetainedStore.copySlot, h]

/-- The last slot of the table is the overflow slot (R176). -/
theorem AccountTable.all_overflow {t : AccountTable} (h : t.slots.length = 63) : t.all[63]? = some t.overflow := by
  rw [AccountTable.all, List.getElem?_append_right h.le, h]
  rfl

@[simp] theorem Station.causeGone_seq (s : Station) (x : Subject) : (s.causeGone x).seq = s.seq := by
  unfold Station.causeGone
  split
  · rw [Station.withdrawPrompt_seq, Station.setAcc_seq]
  · rfl

@[simp] theorem Station.callFor_seq (s : Station) (x : Subject) : (s.callFor x).seq = s.seq := by
  by_cases h : s.accStatus x = .none
  · rw [Station.callFor_of_eq h, Station.raiseSubject_eq, Station.setAcc_seq, Station.raise_seq]
  · rw [Station.callFor_of_ne h]

@[simp] theorem Station.chargeLive_seq (s : Station) (i : Increment) : (s.chargeLive i).seq = s.seq := by
  unfold Station.chargeLive
  dsimp only
  split
  · rw [Station.callFor_seq]
  · rfl

/-- What pending increments charged in order leave of a station (R176, R185). -/
theorem Station.chargeLive_foldl (l : List Increment) (s : Station) :
    (l.foldl Station.chargeLive s).ctl = s.ctl ∧ (l.foldl Station.chargeLive s).seq = s.seq ∧
      ∃ full, (l.foldl Station.chargeLive s).store =
        { s.store with table := l.foldl (fun t i => (t.charge i).1) s.store.table, accountsFull := full } := by
  induction l generalizing s with
  | nil => exact ⟨rfl, rfl, _, rfl⟩
  | cons i is ih =>
    obtain ⟨hctl, hseq, full, hstore⟩ := ih (s.chargeLive i)
    refine ⟨hctl.trans (s.chargeLive_ctl i), hseq.trans (s.chargeLive_seq i), full, hstore.trans ?_⟩
    rw [Station.chargeLive_store]
    rfl

theorem Slot.bytes_length (x : Slot) : x.bytes.length = 11 := rfl

/-- The station as the TALLY CLOSED of its completion is posted (R186). -/
def Station.closedStation (s : Station) : Station :=
  let st := s.store.copySlot
  let y := st.pendingIncs.foldl Station.chargeLive ({ s with store := st.completed }.causeGone .accountsFull)
  { y with store := { y.store with period := st.closing.period, storeLost := false } }.causeGone .storeLost

/-- Its store, but for the accounts-full mark (R186). -/
theorem Station.closedStation_store {s : Station} {x : Slot} (h : s.store.table.all[s.store.closing.next]? = some x) :
    ∃ full, s.closedStation.store = { s.store with
      snapshot := ⟨s.store.snapshot.records.take s.store.closing.next ++ [x], s.store.closing.period, crcFrom s.store.closing.check x.bytes⟩,
      snapHeld := true, closeBusy := false, storeLost := false, period := s.store.closing.period, pendingIncs := [],
      closing := CloseRecord.idle, table := s.store.pendingIncs.foldl (fun t i => (t.charge i).1) AccountTable.cleared,
      accountsFull := full } := by
  obtain ⟨-, -, full, hstore⟩ := Station.chargeLive_foldl s.store.copySlot.pendingIncs
    ({ s with store := s.store.copySlot.completed }.causeGone .accountsFull)
  refine ⟨full, (Station.causeGone_store _ _).trans ?_⟩
  dsimp only
  rw [hstore, Station.causeGone_store, RetainedStore.copySlot_of h]
  rfl

theorem Station.closedStation_ctl (s : Station) : s.closedStation.ctl = s.ctl := by
  obtain ⟨hctl, -, -⟩ := Station.chargeLive_foldl s.store.copySlot.pendingIncs
    ({ s with store := s.store.copySlot.completed }.causeGone .accountsFull)
  exact (Station.causeGone_ctl _ _).trans (hctl.trans (Station.causeGone_ctl _ _))

theorem Station.closedStation_seq (s : Station) : s.closedStation.seq = s.seq := by
  obtain ⟨-, hseq, -⟩ := Station.chargeLive_foldl s.store.copySlot.pendingIncs
    ({ s with store := s.store.copySlot.completed }.causeGone .accountsFull)
  exact (Station.causeGone_seq _ _).trans (hseq.trans (Station.causeGone_seq _ _))

/-- Settles O58: the pending increments charged in order change the table and the accounts-full mark of the store alone. -/
theorem closeCopiesAndCompletes : Obligations.CloseCopiesAndCompletes := by
  refine ⟨fun st x hb hn hx => ⟨?_, x.bytes_length⟩, fun st hb hn => ?_, fun st hb => ?_, fun s h => ?_, fun s hm hb hd hn hlen => ?_⟩
  · have at_slot : st.table.all[st.closing.next]? = some x := by
      obtain ⟨hlt, -⟩ := List.getElem?_eq_some_iff.1 hx
      rw [AccountTable.all, List.getElem?_append_left hlt, hx]
    exact (if_pos hb).trans ((if_pos hn).trans (RetainedStore.copySlot_of at_slot))
  · exact (if_pos hb).trans (if_neg (Nat.not_lt.2 hn))
  · exact if_neg (by simp [hb])
  · refine next_station (if_neg ?_)
    rintro ⟨hm, hb, hd⟩
    rcases h with h | h | h
    · exact absurd (h.symm.trans hb) Bool.false_ne_true
    · exact absurd (h.symm.trans hd) Bool.false_ne_true
    · exact h hm
  · intro st p
    have last : st.table.all[st.closing.next]? = some st.table.overflow := hn ▸ AccountTable.all_overflow hlen
    obtain ⟨full, hstore⟩ := Station.closedStation_store last
    refine ⟨s.station.closedStation, next_station ((if_pos ⟨hm, hb, hd⟩).trans (congrArg Station.finish ?_)), ?_⟩
    · have flags : s.station.closedStation.store.flags = ⟨false, st.snapInvalid, true, false⟩ := by rw [hstore]; rfl
      have period : st.copySlot.closing.period = p := by rw [RetainedStore.copySlot_of last]
      have row : s.station.completeClose = s.station.closedStation.postTally .closed .closed st.copySlot.closing.period 0 [] := rfl
      rw [row, period, Station.postTally, flags]
    · rw [hstore, s.station.closedStation_ctl, s.station.closedStation_seq, hn]
      exact ⟨rfl, rfl, rfl, rfl, rfl, rfl, rfl, rfl, rfl, rfl, rfl, rfl, rfl, rfl, rfl⟩

end Sys2Proof.Machine
end
